-- ==== Sys2Proof/Word.lean ====
section
/-! DEFINITION. Word.lean: the word types of the engine (00_scope.md R8, R10). -/

namespace Sys2Proof

/-- An 8-bit value: a register, a memory byte, an immediate or a port number (R8, R20, R50, R87). -/
abbrev Byte := BitVec 8

/-- A 16-bit value: SP, PC, a register pair, an immediate or an address (R8, R22, R24, R25). -/
abbrev Word := BitVec 16

end Sys2Proof
end

