-- ==== Sys2Proof/Config.lean ====
section
/-! DEFINITION. Config.lean: what the spec fixes for this engine (00_scope.md R8) and the one value it leaves open. -/

namespace Sys2Proof

/-- Bank size in bytes (R8, R50). -/
def Config.bankSize : Nat := 65536

/-- Total backing store, 8 x 65536 bytes (R8, R50). -/
def Config.storeSize : Nat := 524288

/-- The reserved bank-select port, 254 (R8, R286). -/
def Config.bankPort : Byte := 0xFE

/-- The byte IN yields when no read slot is present (R8, R303). -/
def Config.ioFallback : Byte := 0xFF

/-- What every byte of every bank holds after construction and reset (R330), hence what an unlisted address reads as. -/
def Config.blankByte : Byte := 0x00

/-- The OPEN parameter IoReadOracle (R8, R303, D12): the byte a present read slot returns, as a function of the call's
position in the run and the port. A free value: it has no body, so nothing can be proved of it (log entry 2). -/
opaque Config.ioReadOracle : Nat → Byte → Byte

end Sys2Proof
end

