-- ==== Sys2Proof/Syntax.lean ====
section
/-! DEFINITION. Syntax.lean: the operand forms of 30_encoding.md and the instructions, one constructor per row of
spec/opcode_table.json. -/

namespace Sys2Proof

/-- The seven 8-bit registers (10_state.md R20). -/
inductive Reg where
  | A | B | C | D | E | H | L
deriving DecidableEq, Repr

/-- The eight addressable locations: a register, or the memory byte at HL (30_encoding.md R89). -/
inductive Loc where
  | reg (r : Reg)
  | M
deriving DecidableEq, Repr

/-- The three register pairs, views of the registers (10_state.md R22). -/
inductive Pair where
  | BC | DE | HL
deriving DecidableEq, Repr

/-- The pairs of LXI, INX, DCX and DAD (30_encoding.md R90). -/
inductive RegPair where
  | pair (p : Pair)
  | SP
deriving DecidableEq, Repr

/-- The pairs of PUSH and POP (30_encoding.md R90). -/
inductive StackPair where
  | pair (p : Pair)
  | PSW
deriving DecidableEq, Repr

/-- The pairs of LDAX and STAX (30_encoding.md R90). -/
inductive IndPair where
  | BC | DE
deriving DecidableEq, Repr

/-- The eight conditions (30_encoding.md R91). -/
inductive Cond where
  | NZ | Z | NC | C | PO | PE | P | M
deriving DecidableEq, Repr

/-- The eight ALU operations on the accumulator (30_encoding.md R92). -/
inductive AluOp where
  | ADD | ADC | SUB | SBB | ANA | XRA | ORA | CMP
deriving DecidableEq, Repr

/-- The instructions. A constructor's name is its row's mnemonic (spec/opcode_table.json, 30_encoding.md R94) with a small
first part and its operands as arguments; the ten undocumented slots NOP* (R96) carry their opcode value. The instructions
of more than one byte come first, since Lean bounds the number of a constructor that has arguments. -/
inductive Instr where
  /-- 01 `LXI B,d16` (R146) -/
  | lxi_B (d16 : Word)
  /-- 06 `MVI B,d8` (R144) -/
  | mvi_B (d8 : Byte)
  /-- 0E `MVI C,d8` (R144) -/
  | mvi_C (d8 : Byte)
  /-- 11 `LXI D,d16` (R146) -/
  | lxi_D (d16 : Word)
  /-- 16 `MVI D,d8` (R144) -/
  | mvi_D (d8 : Byte)
  /-- 1E `MVI E,d8` (R144) -/
  | mvi_E (d8 : Byte)
  /-- 21 `LXI H,d16` (R146) -/
  | lxi_H (d16 : Word)
  /-- 22 `SHLD a16` (R150) -/
  | shld (a16 : Word)
  /-- 26 `MVI H,d8` (R144) -/
  | mvi_H (d8 : Byte)
  /-- 2A `LHLD a16` (R149) -/
  | lhld (a16 : Word)
  /-- 2E `MVI L,d8` (R144) -/
  | mvi_L (d8 : Byte)
  /-- 31 `LXI SP,d16` (R146) -/
  | lxi_SP (d16 : Word)
  /-- 32 `STA a16` (R148) -/
  | sta (a16 : Word)
  /-- 36 `MVI M,d8` (R145) -/
  | mvi_M (d8 : Byte)
  /-- 3A `LDA a16` (R147) -/
  | lda (a16 : Word)
  /-- 3E `MVI A,d8` (R144) -/
  | mvi_A (d8 : Byte)
  /-- C2 `JNZ a16` (R233) -/
  | jnz (a16 : Word)
  /-- C3 `JMP a16` (R231) -/
  | jmp (a16 : Word)
  /-- C4 `CNZ a16` (R243) -/
  | cnz (a16 : Word)
  /-- C6 `ADI d8` (R174) -/
  | adi (d8 : Byte)
  /-- CA `JZ a16` (R234) -/
  | jz (a16 : Word)
  /-- CC `CZ a16` (R244) -/
  | cz (a16 : Word)
  /-- CD `CALL a16` (R241) -/
  | call (a16 : Word)
  /-- CE `ACI d8` (R175) -/
  | aci (d8 : Byte)
  /-- D2 `JNC a16` (R235) -/
  | jnc (a16 : Word)
  /-- D3 `OUT port` (R286) -/
  | outPort (port : Byte)
  /-- D4 `CNC a16` (R245) -/
  | cnc (a16 : Word)
  /-- D6 `SUI d8` (R176) -/
  | sui (d8 : Byte)
  /-- DA `JC a16` (R236) -/
  | jc (a16 : Word)
  /-- DB `IN port` (R285) -/
  | inPort (port : Byte)
  /-- DC `CC a16` (R246) -/
  | cc (a16 : Word)
  /-- DE `SBI d8` (R177) -/
  | sbi (d8 : Byte)
  /-- E2 `JPO a16` (R237) -/
  | jpo (a16 : Word)
  /-- E4 `CPO a16` (R247) -/
  | cpo (a16 : Word)
  /-- E6 `ANI d8` (R204) -/
  | ani (d8 : Byte)
  /-- EA `JPE a16` (R238) -/
  | jpe (a16 : Word)
  /-- EC `CPE a16` (R248) -/
  | cpe (a16 : Word)
  /-- EE `XRI d8` (R205) -/
  | xri (d8 : Byte)
  /-- F2 `JP a16` (R239) -/
  | jp (a16 : Word)
  /-- F4 `CP a16` (R249) -/
  | cp (a16 : Word)
  /-- F6 `ORI d8` (R206) -/
  | ori (d8 : Byte)
  /-- FA `JM a16` (R240) -/
  | jm (a16 : Word)
  /-- FC `CM a16` (R250) -/
  | cm (a16 : Word)
  /-- FE `CPI d8` (R207) -/
  | cpi (d8 : Byte)
  /-- 00 `NOP` (R287) -/
  | nop
  /-- 02 `STAX B` (R152) -/
  | stax_B
  /-- 03 `INX B` (R181) -/
  | inx_B
  /-- 04 `INR B` (R178) -/
  | inr_B
  /-- 05 `DCR B` (R179) -/
  | dcr_B
  /-- 07 `RLC` (R208) -/
  | rlc
  /-- 08 `NOP*` (R288) -/
  | nop_08
  /-- 09 `DAD B` (R183) -/
  | dad_B
  /-- 0A `LDAX B` (R151) -/
  | ldax_B
  /-- 0B `DCX B` (R182) -/
  | dcx_B
  /-- 0C `INR C` (R178) -/
  | inr_C
  /-- 0D `DCR C` (R179) -/
  | dcr_C
  /-- 0F `RRC` (R209) -/
  | rrc
  /-- 10 `NOP*` (R288) -/
  | nop_10
  /-- 12 `STAX D` (R152) -/
  | stax_D
  /-- 13 `INX D` (R181) -/
  | inx_D
  /-- 14 `INR D` (R178) -/
  | inr_D
  /-- 15 `DCR D` (R179) -/
  | dcr_D
  /-- 17 `RAL` (R210) -/
  | ral
  /-- 18 `NOP*` (R288) -/
  | nop_18
  /-- 19 `DAD D` (R183) -/
  | dad_D
  /-- 1A `LDAX D` (R151) -/
  | ldax_D
  /-- 1B `DCX D` (R182) -/
  | dcx_D
  /-- 1C `INR E` (R178) -/
  | inr_E
  /-- 1D `DCR E` (R179) -/
  | dcr_E
  /-- 1F `RAR` (R211) -/
  | rar
  /-- 20 `RIM` (R291) -/
  | rim
  /-- 23 `INX H` (R181) -/
  | inx_H
  /-- 24 `INR H` (R178) -/
  | inr_H
  /-- 25 `DCR H` (R179) -/
  | dcr_H
  /-- 27 `DAA` (R184) -/
  | daa
  /-- 28 `NOP*` (R288) -/
  | nop_28
  /-- 29 `DAD H` (R183) -/
  | dad_H
  /-- 2B `DCX H` (R182) -/
  | dcx_H
  /-- 2C `INR L` (R178) -/
  | inr_L
  /-- 2D `DCR L` (R179) -/
  | dcr_L
  /-- 2F `CMA` (R212) -/
  | cma
  /-- 30 `SIM` (R292) -/
  | sim
  /-- 33 `INX SP` (R181) -/
  | inx_SP
  /-- 34 `INR M` (R178) -/
  | inr_M
  /-- 35 `DCR M` (R179) -/
  | dcr_M
  /-- 37 `STC` (R213) -/
  | stc
  /-- 38 `NOP*` (R288) -/
  | nop_38
  /-- 39 `DAD SP` (R183) -/
  | dad_SP
  /-- 3B `DCX SP` (R182) -/
  | dcx_SP
  /-- 3C `INR A` (R178) -/
  | inr_A
  /-- 3D `DCR A` (R179) -/
  | dcr_A
  /-- 3F `CMC` (R214) -/
  | cmc
  /-- 40 `MOV B,B` (R141) -/
  | mov_B_B
  /-- 41 `MOV B,C` (R141) -/
  | mov_B_C
  /-- 42 `MOV B,D` (R141) -/
  | mov_B_D
  /-- 43 `MOV B,E` (R141) -/
  | mov_B_E
  /-- 44 `MOV B,H` (R141) -/
  | mov_B_H
  /-- 45 `MOV B,L` (R141) -/
  | mov_B_L
  /-- 46 `MOV B,M` (R142) -/
  | mov_B_M
  /-- 47 `MOV B,A` (R141) -/
  | mov_B_A
  /-- 48 `MOV C,B` (R141) -/
  | mov_C_B
  /-- 49 `MOV C,C` (R141) -/
  | mov_C_C
  /-- 4A `MOV C,D` (R141) -/
  | mov_C_D
  /-- 4B `MOV C,E` (R141) -/
  | mov_C_E
  /-- 4C `MOV C,H` (R141) -/
  | mov_C_H
  /-- 4D `MOV C,L` (R141) -/
  | mov_C_L
  /-- 4E `MOV C,M` (R142) -/
  | mov_C_M
  /-- 4F `MOV C,A` (R141) -/
  | mov_C_A
  /-- 50 `MOV D,B` (R141) -/
  | mov_D_B
  /-- 51 `MOV D,C` (R141) -/
  | mov_D_C
  /-- 52 `MOV D,D` (R141) -/
  | mov_D_D
  /-- 53 `MOV D,E` (R141) -/
  | mov_D_E
  /-- 54 `MOV D,H` (R141) -/
  | mov_D_H
  /-- 55 `MOV D,L` (R141) -/
  | mov_D_L
  /-- 56 `MOV D,M` (R142) -/
  | mov_D_M
  /-- 57 `MOV D,A` (R141) -/
  | mov_D_A
  /-- 58 `MOV E,B` (R141) -/
  | mov_E_B
  /-- 59 `MOV E,C` (R141) -/
  | mov_E_C
  /-- 5A `MOV E,D` (R141) -/
  | mov_E_D
  /-- 5B `MOV E,E` (R141) -/
  | mov_E_E
  /-- 5C `MOV E,H` (R141) -/
  | mov_E_H
  /-- 5D `MOV E,L` (R141) -/
  | mov_E_L
  /-- 5E `MOV E,M` (R142) -/
  | mov_E_M
  /-- 5F `MOV E,A` (R141) -/
  | mov_E_A
  /-- 60 `MOV H,B` (R141) -/
  | mov_H_B
  /-- 61 `MOV H,C` (R141) -/
  | mov_H_C
  /-- 62 `MOV H,D` (R141) -/
  | mov_H_D
  /-- 63 `MOV H,E` (R141) -/
  | mov_H_E
  /-- 64 `MOV H,H` (R141) -/
  | mov_H_H
  /-- 65 `MOV H,L` (R141) -/
  | mov_H_L
  /-- 66 `MOV H,M` (R142) -/
  | mov_H_M
  /-- 67 `MOV H,A` (R141) -/
  | mov_H_A
  /-- 68 `MOV L,B` (R141) -/
  | mov_L_B
  /-- 69 `MOV L,C` (R141) -/
  | mov_L_C
  /-- 6A `MOV L,D` (R141) -/
  | mov_L_D
  /-- 6B `MOV L,E` (R141) -/
  | mov_L_E
  /-- 6C `MOV L,H` (R141) -/
  | mov_L_H
  /-- 6D `MOV L,L` (R141) -/
  | mov_L_L
  /-- 6E `MOV L,M` (R142) -/
  | mov_L_M
  /-- 6F `MOV L,A` (R141) -/
  | mov_L_A
  /-- 70 `MOV M,B` (R143) -/
  | mov_M_B
  /-- 71 `MOV M,C` (R143) -/
  | mov_M_C
  /-- 72 `MOV M,D` (R143) -/
  | mov_M_D
  /-- 73 `MOV M,E` (R143) -/
  | mov_M_E
  /-- 74 `MOV M,H` (R143) -/
  | mov_M_H
  /-- 75 `MOV M,L` (R143) -/
  | mov_M_L
  /-- 76 `HLT` (R293) -/
  | hlt
  /-- 77 `MOV M,A` (R143) -/
  | mov_M_A
  /-- 78 `MOV A,B` (R141) -/
  | mov_A_B
  /-- 79 `MOV A,C` (R141) -/
  | mov_A_C
  /-- 7A `MOV A,D` (R141) -/
  | mov_A_D
  /-- 7B `MOV A,E` (R141) -/
  | mov_A_E
  /-- 7C `MOV A,H` (R141) -/
  | mov_A_H
  /-- 7D `MOV A,L` (R141) -/
  | mov_A_L
  /-- 7E `MOV A,M` (R142) -/
  | mov_A_M
  /-- 7F `MOV A,A` (R141) -/
  | mov_A_A
  /-- 80 `ADD B` (R170) -/
  | add_B
  /-- 81 `ADD C` (R170) -/
  | add_C
  /-- 82 `ADD D` (R170) -/
  | add_D
  /-- 83 `ADD E` (R170) -/
  | add_E
  /-- 84 `ADD H` (R170) -/
  | add_H
  /-- 85 `ADD L` (R170) -/
  | add_L
  /-- 86 `ADD M` (R170) -/
  | add_M
  /-- 87 `ADD A` (R170) -/
  | add_A
  /-- 88 `ADC B` (R171) -/
  | adc_B
  /-- 89 `ADC C` (R171) -/
  | adc_C
  /-- 8A `ADC D` (R171) -/
  | adc_D
  /-- 8B `ADC E` (R171) -/
  | adc_E
  /-- 8C `ADC H` (R171) -/
  | adc_H
  /-- 8D `ADC L` (R171) -/
  | adc_L
  /-- 8E `ADC M` (R171) -/
  | adc_M
  /-- 8F `ADC A` (R171) -/
  | adc_A
  /-- 90 `SUB B` (R172) -/
  | sub_B
  /-- 91 `SUB C` (R172) -/
  | sub_C
  /-- 92 `SUB D` (R172) -/
  | sub_D
  /-- 93 `SUB E` (R172) -/
  | sub_E
  /-- 94 `SUB H` (R172) -/
  | sub_H
  /-- 95 `SUB L` (R172) -/
  | sub_L
  /-- 96 `SUB M` (R172) -/
  | sub_M
  /-- 97 `SUB A` (R172) -/
  | sub_A
  /-- 98 `SBB B` (R173) -/
  | sbb_B
  /-- 99 `SBB C` (R173) -/
  | sbb_C
  /-- 9A `SBB D` (R173) -/
  | sbb_D
  /-- 9B `SBB E` (R173) -/
  | sbb_E
  /-- 9C `SBB H` (R173) -/
  | sbb_H
  /-- 9D `SBB L` (R173) -/
  | sbb_L
  /-- 9E `SBB M` (R173) -/
  | sbb_M
  /-- 9F `SBB A` (R173) -/
  | sbb_A
  /-- A0 `ANA B` (R200) -/
  | ana_B
  /-- A1 `ANA C` (R200) -/
  | ana_C
  /-- A2 `ANA D` (R200) -/
  | ana_D
  /-- A3 `ANA E` (R200) -/
  | ana_E
  /-- A4 `ANA H` (R200) -/
  | ana_H
  /-- A5 `ANA L` (R200) -/
  | ana_L
  /-- A6 `ANA M` (R200) -/
  | ana_M
  /-- A7 `ANA A` (R200) -/
  | ana_A
  /-- A8 `XRA B` (R201) -/
  | xra_B
  /-- A9 `XRA C` (R201) -/
  | xra_C
  /-- AA `XRA D` (R201) -/
  | xra_D
  /-- AB `XRA E` (R201) -/
  | xra_E
  /-- AC `XRA H` (R201) -/
  | xra_H
  /-- AD `XRA L` (R201) -/
  | xra_L
  /-- AE `XRA M` (R201) -/
  | xra_M
  /-- AF `XRA A` (R201) -/
  | xra_A
  /-- B0 `ORA B` (R202) -/
  | ora_B
  /-- B1 `ORA C` (R202) -/
  | ora_C
  /-- B2 `ORA D` (R202) -/
  | ora_D
  /-- B3 `ORA E` (R202) -/
  | ora_E
  /-- B4 `ORA H` (R202) -/
  | ora_H
  /-- B5 `ORA L` (R202) -/
  | ora_L
  /-- B6 `ORA M` (R202) -/
  | ora_M
  /-- B7 `ORA A` (R202) -/
  | ora_A
  /-- B8 `CMP B` (R203) -/
  | cmp_B
  /-- B9 `CMP C` (R203) -/
  | cmp_C
  /-- BA `CMP D` (R203) -/
  | cmp_D
  /-- BB `CMP E` (R203) -/
  | cmp_E
  /-- BC `CMP H` (R203) -/
  | cmp_H
  /-- BD `CMP L` (R203) -/
  | cmp_L
  /-- BE `CMP M` (R203) -/
  | cmp_M
  /-- BF `CMP A` (R203) -/
  | cmp_A
  /-- C0 `RNZ` (R253) -/
  | rnz
  /-- C1 `POP B` (R273) -/
  | pop_B
  /-- C5 `PUSH B` (R272) -/
  | push_B
  /-- C7 `RST 0` (R261) -/
  | rst_0
  /-- C8 `RZ` (R254) -/
  | rz
  /-- C9 `RET` (R251) -/
  | ret
  /-- CB `NOP*` (R288) -/
  | nop_CB
  /-- CF `RST 1` (R261) -/
  | rst_1
  /-- D0 `RNC` (R255) -/
  | rnc
  /-- D1 `POP D` (R273) -/
  | pop_D
  /-- D5 `PUSH D` (R272) -/
  | push_D
  /-- D7 `RST 2` (R261) -/
  | rst_2
  /-- D8 `RC` (R256) -/
  | rc
  /-- D9 `NOP*` (R288) -/
  | nop_D9
  /-- DD `NOP*` (R288) -/
  | nop_DD
  /-- DF `RST 3` (R261) -/
  | rst_3
  /-- E0 `RPO` (R257) -/
  | rpo
  /-- E1 `POP H` (R273) -/
  | pop_H
  /-- E3 `XTHL` (R276) -/
  | xthl
  /-- E5 `PUSH H` (R272) -/
  | push_H
  /-- E7 `RST 4` (R261) -/
  | rst_4
  /-- E8 `RPE` (R258) -/
  | rpe
  /-- E9 `PCHL` (R262) -/
  | pchl
  /-- EB `XCHG` (R153) -/
  | xchg
  /-- ED `NOP*` (R288) -/
  | nop_ED
  /-- EF `RST 5` (R261) -/
  | rst_5
  /-- F0 `RP` (R259) -/
  | rp
  /-- F1 `POP PSW` (R275) -/
  | pop_PSW
  /-- F3 `DI` (R290) -/
  | di
  /-- F5 `PUSH PSW` (R274) -/
  | push_PSW
  /-- F7 `RST 6` (R261) -/
  | rst_6
  /-- F8 `RM` (R260) -/
  | rm
  /-- F9 `SPHL` (R277) -/
  | sphl
  /-- FB `EI` (R289) -/
  | ei
  /-- FD `NOP*` (R288) -/
  | nop_FD
  /-- FF `RST 7` (R261) -/
  | rst_7
deriving DecidableEq, Repr

end Sys2Proof
end

