-- ==== Sys2Proof/Machine/State.lean ====
section
/-! DEFINITION. Machine/State.lean: the state of the CORE as plain data (10_state.md R40), the reasons a step or a host
operation can stop, and the state after construction and reset (70_reset_and_hazards.md R330, R331). -/

namespace Sys2Proof.Machine

/-- The five flags, independent booleans (R26). -/
structure Flags where
  /-- Sign (R27). -/
  s : Bool
  /-- Zero (R28). -/
  z : Bool
  /-- Auxiliary carry (R29). -/
  ac : Bool
  /-- Parity (R30). -/
  p : Bool
  /-- Carry (R31). -/
  cy : Bool
deriving DecidableEq, Repr

/-- The events of the observation record (60_exceptions.md R326). -/
inductive IoEvent where
  /-- `In(p, v)`: a present-slot IN read `value` from `port` (R303). -/
  | input (port value : Byte)
  /-- `Out(p, v)`: a present-slot OUT of `value` to `port` (R304). -/
  | output (port value : Byte)
  /-- `Bank(n)`: an OUT to port 254 selected bank `n` (R286, D13). -/
  | bankSelect (n : Fin 8)
deriving DecidableEq, Repr

/-- The bytes of the eight banks, as (address in the backing store, byte) pairs in the canonical form `Memory.wf` states
(Machine/Ops.lean): every byte not listed is `Config.blankByte` (R50, R330; log entry 5). -/
abbrev Memory := List Host.Cell

/-- The state of the CORE (R40) and its observation record (R326). -/
structure State where
  /-- Accumulator (R20). -/
  a : Byte
  b : Byte
  c : Byte
  d : Byte
  e : Byte
  h : Byte
  l : Byte
  /-- Stack pointer (R24). -/
  sp : Word
  /-- Program counter (R25). -/
  pc : Word
  flags : Flags
  /-- The engine is Halted (R35). -/
  halted : Bool
  interruptEnabled : Bool
  /-- Index of the active bank (R38). -/
  bank : Fin 8
  /-- All eight banks (R50). -/
  mem : Memory
  /-- The read slot holds a callback (R36; log entry 1). -/
  readSlot : Bool
  /-- The write slot holds a callback (R36; log entry 1). -/
  writeSlot : Bool
  /-- The model's own field: present-slot reads made so far, the position of the next draw of `Config.ioReadOracle`
  (D12; log entry 2). -/
  inputCount : Nat
  /-- The observation record, oldest event first (R326; log entry 3). -/
  events : List IoEvent
deriving DecidableEq, Repr

/-- Why a step can stop with a fault: there is no reason. The engine has no fault or stuck outcome (R300). -/
inductive Fault
deriving DecidableEq, Repr

/-- Why an operation is refused. -/
inductive Refusal where
  /-- An instruction that has no meaning yet. Raised by no arm of exec: every instruction is modelled. Safe. -/
  | notModelled (mnemonic : String)
  /-- Raised by the host operations readByte and writeByte on a named bank outside 0 to 7 (R59, D15, U2), never by an
  instruction. Safe: the spec gives no behaviour. -/
  | bankOutOfRange
  /-- Raised by the host operations that set a slot to a callback that calls back into the engine (R323, D14, U1), never by
  an instruction. Safe: the spec disallows it. -/
  | reentrantCallback
deriving DecidableEq, Repr

/-- What an instruction or a step answers. -/
abbrev Result := Host.Outcome State Fault Refusal

/-- Every flag false (R330, D10). -/
def Flags.clear : Flags :=
  { s := false, z := false, ac := false, p := false, cy := false }

/-- The state after construction, and after `reset()` with both slots empty (R330, R331). -/
def State.reset : State :=
  { a := 0, b := 0, c := 0, d := 0, e := 0, h := 0, l := 0
    sp := 0xFFFF
    pc := 0x0000
    flags := Flags.clear
    halted := false
    interruptEnabled := false
    bank := 0
    mem := []
    readSlot := false
    writeSlot := false
    inputCount := 0
    events := [] }

end Sys2Proof.Machine
end

