-- ==== Sys2Proof/Machine/Flags.lean ====
section
/-! DEFINITION. Machine/Flags.lean: flag derivation, the ALU functions and decimal adjust (40_alu.md), the packed flag byte
(10_state.md R33, R34) and the conditions (44_branch.md R230). -/

namespace Sys2Proof.Machine

/-! ## Flag derivation -/

/-- How many of the eight bits are 1 (R114). -/
def onesCount (v : Byte) : Nat := ((List.range 8).filter (fun i => v.getLsbD i)).length

/-- `parity(v)`: the number of 1 bits is even (R114). -/
def parity (v : Byte) : Bool := onesCount v % 2 == 0

/-- `updateFlagsArithmetic(r)`: Z, S and P; neither CY nor AC (R112). -/
def Flags.arithmetic (f : Flags) (r : Byte) : Flags :=
  { f with z := r == 0, s := r.getLsbD 7, p := parity r }

/-- `updateFlagsLogical(r)`: Z, S and P, and CY and AC cleared (R113). -/
def Flags.logical (f : Flags) (r : Byte) : Flags :=
  { f.arithmetic r with cy := false, ac := false }

/-! ## The ALU -/

/-- A boolean used as a number (R11). -/
def bit (b : Bool) : Nat := if b then 1 else 0

/-- `v & 0x0F` as a number. -/
def lowNibble (v : Byte) : Nat := v.toNat % 16

/-- `add(acc, value, withCarry)` (R110). The auxiliary carry reads the carry just written, not the incoming one (R116, C2). -/
def aluAdd (acc value : Byte) (withCarry : Bool) (f : Flags) : Byte × Flags :=
  let cin := bit (withCarry && f.cy)
  let sum := acc.toNat + value.toNat + cin
  let cy := decide (0xFF < sum)
  let cinAC := bit (withCarry && cy)
  let ac := decide (0x0F < lowNibble acc + lowNibble value + cinAC)
  let r := BitVec.ofNat 8 sum
  (r, Flags.arithmetic { f with cy := cy, ac := ac } r)

/-- `sub(acc, value, withBorrow)` (R111, D9). The nibble borrow reads the borrow just written, not the incoming one (R116). -/
def aluSub (acc value : Byte) (withBorrow : Bool) (f : Flags) : Byte × Flags :=
  let bin := bit (withBorrow && f.cy)
  let diff : Int := (acc.toNat : Int) - value.toNat - bin
  let cy := decide (diff < 0)
  let binAC := bit (withBorrow && cy)
  let ac := decide ((lowNibble acc : Int) - lowNibble value - binAC < 0)
  let r := BitVec.ofInt 8 diff
  (r, Flags.arithmetic { f with cy := cy, ac := ac } r)

/-- `daa(acc)` (R117, D8). -/
def aluDaa (acc : Byte) (f : Flags) : Byte × Flags :=
  let lo := acc.toNat % 16
  let hi := acc.toNat / 16
  let adjustLow := decide (9 < lo) || f.ac
  let adjustHigh := decide (9 < hi) || f.cy || (decide (9 ≤ hi) && decide (9 < lo))
  let corr := (if adjustLow then 0x06 else 0) + (if adjustHigh then 0x60 else 0)
  let ac := decide (0x0F < lo + corr % 16)
  let r := BitVec.ofNat 8 (acc.toNat + corr)
  (r, Flags.arithmetic { f with cy := f.cy || adjustHigh, ac := ac } r)

/-! ## The packed flag byte -/

/-- `flagbyte(F)`: bit 7 = S, 6 = Z, 4 = AC, 2 = P, 1 fixed at 1, 0 = CY, 5 and 3 fixed at 0 (R33, D4). -/
def Flags.pack (f : Flags) : Byte :=
  BitVec.ofNat 8 (bit f.s * 0x80 + bit f.z * 0x40 + bit f.ac * 0x10 + bit f.p * 0x04 + 0x02 + bit f.cy * 0x01)

/-- `unpack(b)`: bits 5, 3 and 1 are ignored (R34). -/
def Flags.unpack (b : Byte) : Flags :=
  { s := b.getLsbD 7, z := b.getLsbD 6, ac := b.getLsbD 4, p := b.getLsbD 2, cy := b.getLsbD 0 }

/-! ## Conditions -/

/-- `cond(ccc)` (R230). -/
def condHolds (c : Cond) (f : Flags) : Bool :=
  match c with
  | .NZ => !f.z
  | .Z => f.z
  | .NC => !f.cy
  | .C => f.cy
  | .PO => !f.p
  | .PE => f.p
  | .P => !f.s
  | .M => f.s

end Sys2Proof.Machine
end

