-- ==== Sys2Proof/Decode.lean ====
section
/-! DEFINITION. Decode.lean: field codes and views (30_encoding.md R86 to R93), the total decoder written from the field
layout (R86, R99), and after it the encoder written from the opcode map (R94). -/

namespace Sys2Proof

/-! ## Bytes of a 16-bit value -/

/-- `v[15:8]` (R9). -/
def hiByte (v : Word) : Byte := v.extractLsb' 8 8

/-- `v[7:0]` (R9). -/
def loByte (v : Word) : Byte := v.extractLsb' 0 8

/-- `hi:lo = hi * 256 + lo` (R9). -/
def joinBytes (hi lo : Byte) : Word := hi ++ lo

/-! ## Field codes -/

/-- The 3-bit location field (R89). -/
def Loc.code : Loc → BitVec 3
  | .reg .B => 0
  | .reg .C => 1
  | .reg .D => 2
  | .reg .E => 3
  | .reg .H => 4
  | .reg .L => 5
  | .M => 6
  | .reg .A => 7

/-- The location a 3-bit field selects (R89). -/
def Loc.ofCode (c : BitVec 3) : Loc :=
  match c.toNat with
  | 0 => .reg .B
  | 1 => .reg .C
  | 2 => .reg .D
  | 3 => .reg .E
  | 4 => .reg .H
  | 5 => .reg .L
  | 6 => .M
  | _ => .reg .A

/-- The 2-bit code of a register pair (R90). -/
def Pair.code : Pair → BitVec 2
  | .BC => 0
  | .DE => 1
  | .HL => 2

/-- The `rp` field of LXI, INX, DCX and DAD (R90). -/
def RegPair.code : RegPair → BitVec 2
  | .pair p => p.code
  | .SP => 3

/-- The pair the `rp` field of LXI, INX, DCX and DAD selects (R90). -/
def RegPair.ofCode (c : BitVec 2) : RegPair :=
  match c.toNat with
  | 0 => .pair .BC
  | 1 => .pair .DE
  | 2 => .pair .HL
  | _ => .SP

/-- The `rp` field of PUSH and POP (R90). -/
def StackPair.code : StackPair → BitVec 2
  | .pair p => p.code
  | .PSW => 3

/-- The pair the `rp` field of PUSH and POP selects (R90). -/
def StackPair.ofCode (c : BitVec 2) : StackPair :=
  match c.toNat with
  | 0 => .pair .BC
  | 1 => .pair .DE
  | 2 => .pair .HL
  | _ => .PSW

/-- The `rp` field of LDAX and STAX (R90). -/
def IndPair.code : IndPair → BitVec 2
  | .BC => 0
  | .DE => 1

/-- The condition field (R91, R230). -/
def Cond.code : Cond → BitVec 3
  | .NZ => 0
  | .Z => 1
  | .NC => 2
  | .C => 3
  | .PO => 4
  | .PE => 5
  | .P => 6
  | .M => 7

/-- The condition a 3-bit field selects (R91, R230). -/
def Cond.ofCode (c : BitVec 3) : Cond :=
  match c.toNat with
  | 0 => .NZ
  | 1 => .Z
  | 2 => .NC
  | 3 => .C
  | 4 => .PO
  | 5 => .PE
  | 6 => .P
  | _ => .M

/-- The ALU-operation field (R92). -/
def AluOp.code : AluOp → BitVec 3
  | .ADD => 0
  | .ADC => 1
  | .SUB => 2
  | .SBB => 3
  | .ANA => 4
  | .XRA => 5
  | .ORA => 6
  | .CMP => 7

/-- The ALU operation a 3-bit field selects (R92). -/
def AluOp.ofCode (c : BitVec 3) : AluOp :=
  match c.toNat with
  | 0 => .ADD
  | 1 => .ADC
  | 2 => .SUB
  | 3 => .SBB
  | 4 => .ANA
  | 5 => .XRA
  | 6 => .ORA
  | _ => .CMP

/-! ## Views: the instruction of a family with given field values

Each names the row of the opcode table that has these fields (the table's mnemonic), so that a family can be spoken of at once. -/

/-- MOV `d`,`s` (R141, R142, R143); the slot MOV M,M is HLT (R99, C7). -/
def movInstr (d s : Loc) : Instr :=
  match d, s with
  | .reg .B, .reg .B => .mov_B_B
  | .reg .B, .reg .C => .mov_B_C
  | .reg .B, .reg .D => .mov_B_D
  | .reg .B, .reg .E => .mov_B_E
  | .reg .B, .reg .H => .mov_B_H
  | .reg .B, .reg .L => .mov_B_L
  | .reg .B, .M => .mov_B_M
  | .reg .B, .reg .A => .mov_B_A
  | .reg .C, .reg .B => .mov_C_B
  | .reg .C, .reg .C => .mov_C_C
  | .reg .C, .reg .D => .mov_C_D
  | .reg .C, .reg .E => .mov_C_E
  | .reg .C, .reg .H => .mov_C_H
  | .reg .C, .reg .L => .mov_C_L
  | .reg .C, .M => .mov_C_M
  | .reg .C, .reg .A => .mov_C_A
  | .reg .D, .reg .B => .mov_D_B
  | .reg .D, .reg .C => .mov_D_C
  | .reg .D, .reg .D => .mov_D_D
  | .reg .D, .reg .E => .mov_D_E
  | .reg .D, .reg .H => .mov_D_H
  | .reg .D, .reg .L => .mov_D_L
  | .reg .D, .M => .mov_D_M
  | .reg .D, .reg .A => .mov_D_A
  | .reg .E, .reg .B => .mov_E_B
  | .reg .E, .reg .C => .mov_E_C
  | .reg .E, .reg .D => .mov_E_D
  | .reg .E, .reg .E => .mov_E_E
  | .reg .E, .reg .H => .mov_E_H
  | .reg .E, .reg .L => .mov_E_L
  | .reg .E, .M => .mov_E_M
  | .reg .E, .reg .A => .mov_E_A
  | .reg .H, .reg .B => .mov_H_B
  | .reg .H, .reg .C => .mov_H_C
  | .reg .H, .reg .D => .mov_H_D
  | .reg .H, .reg .E => .mov_H_E
  | .reg .H, .reg .H => .mov_H_H
  | .reg .H, .reg .L => .mov_H_L
  | .reg .H, .M => .mov_H_M
  | .reg .H, .reg .A => .mov_H_A
  | .reg .L, .reg .B => .mov_L_B
  | .reg .L, .reg .C => .mov_L_C
  | .reg .L, .reg .D => .mov_L_D
  | .reg .L, .reg .E => .mov_L_E
  | .reg .L, .reg .H => .mov_L_H
  | .reg .L, .reg .L => .mov_L_L
  | .reg .L, .M => .mov_L_M
  | .reg .L, .reg .A => .mov_L_A
  | .M, .reg .B => .mov_M_B
  | .M, .reg .C => .mov_M_C
  | .M, .reg .D => .mov_M_D
  | .M, .reg .E => .mov_M_E
  | .M, .reg .H => .mov_M_H
  | .M, .reg .L => .mov_M_L
  | .M, .M => .hlt
  | .M, .reg .A => .mov_M_A
  | .reg .A, .reg .B => .mov_A_B
  | .reg .A, .reg .C => .mov_A_C
  | .reg .A, .reg .D => .mov_A_D
  | .reg .A, .reg .E => .mov_A_E
  | .reg .A, .reg .H => .mov_A_H
  | .reg .A, .reg .L => .mov_A_L
  | .reg .A, .M => .mov_A_M
  | .reg .A, .reg .A => .mov_A_A

/-- MVI `d`,v (R144, R145). -/
def mviInstr (d : Loc) (v : Byte) : Instr :=
  match d with
  | .reg .B => .mvi_B v
  | .reg .C => .mvi_C v
  | .reg .D => .mvi_D v
  | .reg .E => .mvi_E v
  | .reg .H => .mvi_H v
  | .reg .L => .mvi_L v
  | .M => .mvi_M v
  | .reg .A => .mvi_A v

/-- INR `d` (R178). -/
def inrInstr (d : Loc) : Instr :=
  match d with
  | .reg .B => .inr_B
  | .reg .C => .inr_C
  | .reg .D => .inr_D
  | .reg .E => .inr_E
  | .reg .H => .inr_H
  | .reg .L => .inr_L
  | .M => .inr_M
  | .reg .A => .inr_A

/-- DCR `d` (R179). -/
def dcrInstr (d : Loc) : Instr :=
  match d with
  | .reg .B => .dcr_B
  | .reg .C => .dcr_C
  | .reg .D => .dcr_D
  | .reg .E => .dcr_E
  | .reg .H => .dcr_H
  | .reg .L => .dcr_L
  | .M => .dcr_M
  | .reg .A => .dcr_A

/-- ADD, ADC, SUB, SBB, ANA, XRA, ORA or CMP with a register or M (R170 to R173, R200 to R203). -/
def aluInstr (op : AluOp) (s : Loc) : Instr :=
  match op, s with
  | .ADD, .reg .B => .add_B
  | .ADD, .reg .C => .add_C
  | .ADD, .reg .D => .add_D
  | .ADD, .reg .E => .add_E
  | .ADD, .reg .H => .add_H
  | .ADD, .reg .L => .add_L
  | .ADD, .M => .add_M
  | .ADD, .reg .A => .add_A
  | .ADC, .reg .B => .adc_B
  | .ADC, .reg .C => .adc_C
  | .ADC, .reg .D => .adc_D
  | .ADC, .reg .E => .adc_E
  | .ADC, .reg .H => .adc_H
  | .ADC, .reg .L => .adc_L
  | .ADC, .M => .adc_M
  | .ADC, .reg .A => .adc_A
  | .SUB, .reg .B => .sub_B
  | .SUB, .reg .C => .sub_C
  | .SUB, .reg .D => .sub_D
  | .SUB, .reg .E => .sub_E
  | .SUB, .reg .H => .sub_H
  | .SUB, .reg .L => .sub_L
  | .SUB, .M => .sub_M
  | .SUB, .reg .A => .sub_A
  | .SBB, .reg .B => .sbb_B
  | .SBB, .reg .C => .sbb_C
  | .SBB, .reg .D => .sbb_D
  | .SBB, .reg .E => .sbb_E
  | .SBB, .reg .H => .sbb_H
  | .SBB, .reg .L => .sbb_L
  | .SBB, .M => .sbb_M
  | .SBB, .reg .A => .sbb_A
  | .ANA, .reg .B => .ana_B
  | .ANA, .reg .C => .ana_C
  | .ANA, .reg .D => .ana_D
  | .ANA, .reg .E => .ana_E
  | .ANA, .reg .H => .ana_H
  | .ANA, .reg .L => .ana_L
  | .ANA, .M => .ana_M
  | .ANA, .reg .A => .ana_A
  | .XRA, .reg .B => .xra_B
  | .XRA, .reg .C => .xra_C
  | .XRA, .reg .D => .xra_D
  | .XRA, .reg .E => .xra_E
  | .XRA, .reg .H => .xra_H
  | .XRA, .reg .L => .xra_L
  | .XRA, .M => .xra_M
  | .XRA, .reg .A => .xra_A
  | .ORA, .reg .B => .ora_B
  | .ORA, .reg .C => .ora_C
  | .ORA, .reg .D => .ora_D
  | .ORA, .reg .E => .ora_E
  | .ORA, .reg .H => .ora_H
  | .ORA, .reg .L => .ora_L
  | .ORA, .M => .ora_M
  | .ORA, .reg .A => .ora_A
  | .CMP, .reg .B => .cmp_B
  | .CMP, .reg .C => .cmp_C
  | .CMP, .reg .D => .cmp_D
  | .CMP, .reg .E => .cmp_E
  | .CMP, .reg .H => .cmp_H
  | .CMP, .reg .L => .cmp_L
  | .CMP, .M => .cmp_M
  | .CMP, .reg .A => .cmp_A

/-- ADI, ACI, SUI, SBI, ANI, XRI, ORI or CPI (R174 to R177, R204 to R207). -/
def aluImmInstr (op : AluOp) (v : Byte) : Instr :=
  match op with
  | .ADD => .adi v
  | .ADC => .aci v
  | .SUB => .sui v
  | .SBB => .sbi v
  | .ANA => .ani v
  | .XRA => .xri v
  | .ORA => .ori v
  | .CMP => .cpi v

/-- LXI `rp` (R146). -/
def lxiInstr (rp : RegPair) (v : Word) : Instr :=
  match rp with
  | .pair .BC => .lxi_B v
  | .pair .DE => .lxi_D v
  | .pair .HL => .lxi_H v
  | .SP => .lxi_SP v

/-- INX `rp` (R181). -/
def inxInstr (rp : RegPair) : Instr :=
  match rp with
  | .pair .BC => .inx_B
  | .pair .DE => .inx_D
  | .pair .HL => .inx_H
  | .SP => .inx_SP

/-- DCX `rp` (R182). -/
def dcxInstr (rp : RegPair) : Instr :=
  match rp with
  | .pair .BC => .dcx_B
  | .pair .DE => .dcx_D
  | .pair .HL => .dcx_H
  | .SP => .dcx_SP

/-- DAD `rp` (R183). -/
def dadInstr (rp : RegPair) : Instr :=
  match rp with
  | .pair .BC => .dad_B
  | .pair .DE => .dad_D
  | .pair .HL => .dad_H
  | .SP => .dad_SP

/-- PUSH `rp` (R272, R274). -/
def pushInstr (rp : StackPair) : Instr :=
  match rp with
  | .pair .BC => .push_B
  | .pair .DE => .push_D
  | .pair .HL => .push_H
  | .PSW => .push_PSW

/-- POP `rp` (R273, R275). -/
def popInstr (rp : StackPair) : Instr :=
  match rp with
  | .pair .BC => .pop_B
  | .pair .DE => .pop_D
  | .pair .HL => .pop_H
  | .PSW => .pop_PSW

/-- LDAX `rp` (R151). -/
def ldaxInstr (rp : IndPair) : Instr :=
  match rp with
  | .BC => .ldax_B
  | .DE => .ldax_D

/-- STAX `rp` (R152). -/
def staxInstr (rp : IndPair) : Instr :=
  match rp with
  | .BC => .stax_B
  | .DE => .stax_D

/-- The conditional jump on `c` (R232 to R240). -/
def jccInstr (c : Cond) (a : Word) : Instr :=
  match c with
  | .NZ => .jnz a
  | .Z => .jz a
  | .NC => .jnc a
  | .C => .jc a
  | .PO => .jpo a
  | .PE => .jpe a
  | .P => .jp a
  | .M => .jm a

/-- The conditional call on `c` (R242 to R250). -/
def cccInstr (c : Cond) (a : Word) : Instr :=
  match c with
  | .NZ => .cnz a
  | .Z => .cz a
  | .NC => .cnc a
  | .C => .cc a
  | .PO => .cpo a
  | .PE => .cpe a
  | .P => .cp a
  | .M => .cm a

/-- The conditional return on `c` (R252 to R260). -/
def rccInstr (c : Cond) : Instr :=
  match c with
  | .NZ => .rnz
  | .Z => .rz
  | .NC => .rnc
  | .C => .rc
  | .PO => .rpo
  | .PE => .rpe
  | .P => .rp
  | .M => .rm

/-- RST `n` (R93, R261). -/
def rstInstr (n : BitVec 3) : Instr :=
  match n.toNat with
  | 0 => .rst_0
  | 1 => .rst_1
  | 2 => .rst_2
  | 3 => .rst_3
  | 4 => .rst_4
  | 5 => .rst_5
  | 6 => .rst_6
  | _ => .rst_7

/-- The opcode values the 8085 leaves undocumented (R96). -/
def undocumentedOpcodes : List Byte := [0x08, 0x10, 0x18, 0x28, 0x38, 0xCB, 0xD9, 0xDD, 0xED, 0xFD]

/-- The ten undocumented slots, in the order of `undocumentedOpcodes` (R96, R288). -/
def undocumentedInstrs : List Instr := [.nop_08, .nop_10, .nop_18, .nop_28, .nop_38, .nop_CB, .nop_D9, .nop_DD, .nop_ED, .nop_FD]

/-! ## The decoder -/

/-- Bytes of the instruction with this opcode, found from the opcode alone (R85). -/
def opcodeLength (op : Byte) : Nat :=
  if op ∈ ([0x01, 0x11, 0x21, 0x22, 0x2A, 0x31, 0x32, 0x3A,
      0xC2, 0xC3, 0xC4, 0xCA, 0xCC, 0xCD, 0xD2, 0xD4, 0xDA, 0xDC, 0xE2, 0xE4, 0xEA, 0xEC, 0xF2, 0xF4, 0xFA, 0xFC] : List Byte) then 3
  else if op ∈ ([0x06, 0x0E, 0x16, 0x1E, 0x26, 0x2E, 0x36, 0x3E,
      0xC6, 0xCE, 0xD3, 0xD6, 0xDB, 0xDE, 0xE6, 0xEE, 0xF6, 0xFE] : List Byte) then 2
  else 1

/-- Block `b7 b6 = 00` of the map, by `b2 b1 b0` and `b5 b4 b3` (R86, R94). -/
def decodeBlock0 (op x y : Byte) : Instr :=
  let mid : BitVec 3 := op.extractLsb' 3 3
  let rp := RegPair.ofCode (op.extractLsb' 4 2)
  let b3 : Bool := op.getLsbD 3
  match (op.extractLsb' 0 3).toNat with
  | 0 =>
    match mid.toNat with
    | 0 => .nop
    | 1 => .nop_08
    | 2 => .nop_10
    | 3 => .nop_18
    | 4 => .rim
    | 5 => .nop_28
    | 6 => .sim
    | _ => .nop_38
  | 1 => if b3 then dadInstr rp else lxiInstr rp (joinBytes y x)
  | 2 =>
    match mid.toNat with
    | 0 => .stax_B
    | 1 => .ldax_B
    | 2 => .stax_D
    | 3 => .ldax_D
    | 4 => .shld (joinBytes y x)
    | 5 => .lhld (joinBytes y x)
    | 6 => .sta (joinBytes y x)
    | _ => .lda (joinBytes y x)
  | 3 => if b3 then dcxInstr rp else inxInstr rp
  | 4 => inrInstr (Loc.ofCode mid)
  | 5 => dcrInstr (Loc.ofCode mid)
  | 6 => mviInstr (Loc.ofCode mid) x
  | _ =>
    match mid.toNat with
    | 0 => .rlc
    | 1 => .rrc
    | 2 => .ral
    | 3 => .rar
    | 4 => .daa
    | 5 => .cma
    | 6 => .stc
    | _ => .cmc

/-- Block `b7 b6 = 11` of the map, by `b2 b1 b0` and `b5 b4 b3` (R86, R94). -/
def decodeBlock3 (op x y : Byte) : Instr :=
  let mid : BitVec 3 := op.extractLsb' 3 3
  let rp := StackPair.ofCode (op.extractLsb' 4 2)
  match (op.extractLsb' 0 3).toNat with
  | 0 => rccInstr (Cond.ofCode mid)
  | 1 =>
    match mid.toNat with
    | 1 => .ret
    | 3 => .nop_D9
    | 5 => .pchl
    | 7 => .sphl
    | _ => popInstr rp
  | 2 => jccInstr (Cond.ofCode mid) (joinBytes y x)
  | 3 =>
    match mid.toNat with
    | 0 => .jmp (joinBytes y x)
    | 1 => .nop_CB
    | 2 => .outPort x
    | 3 => .inPort x
    | 4 => .xthl
    | 5 => .xchg
    | 6 => .di
    | _ => .ei
  | 4 => cccInstr (Cond.ofCode mid) (joinBytes y x)
  | 5 =>
    match mid.toNat with
    | 1 => .call (joinBytes y x)
    | 3 => .nop_DD
    | 5 => .nop_ED
    | 7 => .nop_FD
    | _ => pushInstr rp
  | 6 => aluImmInstr (AluOp.ofCode mid) x
  | _ => rstInstr mid

/-- The instruction whose opcode byte is `op`, with `x` as byte 2 and `y` as byte 3 where it has them (R86 to R88). Total:
every opcode value has defined behaviour (R82). -/
def decodeBytes (op x y : Byte) : Instr :=
  match (op.extractLsb' 6 2).toNat with
  | 0 => decodeBlock0 op x y
  | 1 => movInstr (Loc.ofCode (op.extractLsb' 3 3)) (Loc.ofCode (op.extractLsb' 0 3))
  | 2 => aluInstr (AluOp.ofCode (op.extractLsb' 3 3)) (Loc.ofCode (op.extractLsb' 0 3))
  | _ => decodeBlock3 op x y

/-- Why a byte list holds no whole instruction. No byte value is a reason: every opcode decodes (R82, R97). -/
inductive DecodeError where
  /-- There is no byte to read. -/
  | noBytes
  /-- The list ends before the instruction of this opcode does. -/
  | truncated (op : Byte)
deriving DecidableEq, Repr

/-- The instruction at the head of a byte list, and the bytes after it (R84, R85). -/
def decode : List Byte → Except DecodeError (Instr × List Byte)
  | [] => .error .noBytes
  | op :: rest =>
    match opcodeLength op, rest with
    | 1, _ => .ok (decodeBytes op 0 0, rest)
    | 2, x :: tail => .ok (decodeBytes op x 0, tail)
    | 3, x :: y :: tail => .ok (decodeBytes op x y, tail)
    | _, _ => .error (.truncated op)

/-- Byte `k` of the opcode table's number `w` of `nbits` bits: byte 0 holds bits 7 to 0 (every bit above `nbits` is 0). -/
def tableByte (nbits w k : Nat) : Byte := BitVec.ofNat 8 (w % 2 ^ nbits / 256 ^ k)

/-- What the decoder reads from a table word, padded with zero bytes to the longest instruction. -/
def decodeTableWord (nbits w : Nat) : Option Instr :=
  match decode [tableByte nbits w 0, tableByte nbits w 1, tableByte nbits w 2] with
  | .ok (i, _) => some i
  | .error _ => none

/-! ## The encoder -/

/-- Byte 2 and byte 3 of a 3-byte instruction: the low byte first (R84, R88, D1). -/
def operandBytes (v : Word) : List Byte := [loByte v, hiByte v]

/-- The bytes of an instruction, by the opcode map (R94). -/
def encode : Instr → List Byte
  | .nop => [0x00]
  | .lxi_B v => 0x01 :: operandBytes v
  | .stax_B => [0x02]
  | .inx_B => [0x03]
  | .inr_B => [0x04]
  | .dcr_B => [0x05]
  | .mvi_B v => [0x06, v]
  | .rlc => [0x07]
  | .nop_08 => [0x08]
  | .dad_B => [0x09]
  | .ldax_B => [0x0A]
  | .dcx_B => [0x0B]
  | .inr_C => [0x0C]
  | .dcr_C => [0x0D]
  | .mvi_C v => [0x0E, v]
  | .rrc => [0x0F]
  | .nop_10 => [0x10]
  | .lxi_D v => 0x11 :: operandBytes v
  | .stax_D => [0x12]
  | .inx_D => [0x13]
  | .inr_D => [0x14]
  | .dcr_D => [0x15]
  | .mvi_D v => [0x16, v]
  | .ral => [0x17]
  | .nop_18 => [0x18]
  | .dad_D => [0x19]
  | .ldax_D => [0x1A]
  | .dcx_D => [0x1B]
  | .inr_E => [0x1C]
  | .dcr_E => [0x1D]
  | .mvi_E v => [0x1E, v]
  | .rar => [0x1F]
  | .rim => [0x20]
  | .lxi_H v => 0x21 :: operandBytes v
  | .shld v => 0x22 :: operandBytes v
  | .inx_H => [0x23]
  | .inr_H => [0x24]
  | .dcr_H => [0x25]
  | .mvi_H v => [0x26, v]
  | .daa => [0x27]
  | .nop_28 => [0x28]
  | .dad_H => [0x29]
  | .lhld v => 0x2A :: operandBytes v
  | .dcx_H => [0x2B]
  | .inr_L => [0x2C]
  | .dcr_L => [0x2D]
  | .mvi_L v => [0x2E, v]
  | .cma => [0x2F]
  | .sim => [0x30]
  | .lxi_SP v => 0x31 :: operandBytes v
  | .sta v => 0x32 :: operandBytes v
  | .inx_SP => [0x33]
  | .inr_M => [0x34]
  | .dcr_M => [0x35]
  | .mvi_M v => [0x36, v]
  | .stc => [0x37]
  | .nop_38 => [0x38]
  | .dad_SP => [0x39]
  | .lda v => 0x3A :: operandBytes v
  | .dcx_SP => [0x3B]
  | .inr_A => [0x3C]
  | .dcr_A => [0x3D]
  | .mvi_A v => [0x3E, v]
  | .cmc => [0x3F]
  | .mov_B_B => [0x40]
  | .mov_B_C => [0x41]
  | .mov_B_D => [0x42]
  | .mov_B_E => [0x43]
  | .mov_B_H => [0x44]
  | .mov_B_L => [0x45]
  | .mov_B_M => [0x46]
  | .mov_B_A => [0x47]
  | .mov_C_B => [0x48]
  | .mov_C_C => [0x49]
  | .mov_C_D => [0x4A]
  | .mov_C_E => [0x4B]
  | .mov_C_H => [0x4C]
  | .mov_C_L => [0x4D]
  | .mov_C_M => [0x4E]
  | .mov_C_A => [0x4F]
  | .mov_D_B => [0x50]
  | .mov_D_C => [0x51]
  | .mov_D_D => [0x52]
  | .mov_D_E => [0x53]
  | .mov_D_H => [0x54]
  | .mov_D_L => [0x55]
  | .mov_D_M => [0x56]
  | .mov_D_A => [0x57]
  | .mov_E_B => [0x58]
  | .mov_E_C => [0x59]
  | .mov_E_D => [0x5A]
  | .mov_E_E => [0x5B]
  | .mov_E_H => [0x5C]
  | .mov_E_L => [0x5D]
  | .mov_E_M => [0x5E]
  | .mov_E_A => [0x5F]
  | .mov_H_B => [0x60]
  | .mov_H_C => [0x61]
  | .mov_H_D => [0x62]
  | .mov_H_E => [0x63]
  | .mov_H_H => [0x64]
  | .mov_H_L => [0x65]
  | .mov_H_M => [0x66]
  | .mov_H_A => [0x67]
  | .mov_L_B => [0x68]
  | .mov_L_C => [0x69]
  | .mov_L_D => [0x6A]
  | .mov_L_E => [0x6B]
  | .mov_L_H => [0x6C]
  | .mov_L_L => [0x6D]
  | .mov_L_M => [0x6E]
  | .mov_L_A => [0x6F]
  | .mov_M_B => [0x70]
  | .mov_M_C => [0x71]
  | .mov_M_D => [0x72]
  | .mov_M_E => [0x73]
  | .mov_M_H => [0x74]
  | .mov_M_L => [0x75]
  | .hlt => [0x76]
  | .mov_M_A => [0x77]
  | .mov_A_B => [0x78]
  | .mov_A_C => [0x79]
  | .mov_A_D => [0x7A]
  | .mov_A_E => [0x7B]
  | .mov_A_H => [0x7C]
  | .mov_A_L => [0x7D]
  | .mov_A_M => [0x7E]
  | .mov_A_A => [0x7F]
  | .add_B => [0x80]
  | .add_C => [0x81]
  | .add_D => [0x82]
  | .add_E => [0x83]
  | .add_H => [0x84]
  | .add_L => [0x85]
  | .add_M => [0x86]
  | .add_A => [0x87]
  | .adc_B => [0x88]
  | .adc_C => [0x89]
  | .adc_D => [0x8A]
  | .adc_E => [0x8B]
  | .adc_H => [0x8C]
  | .adc_L => [0x8D]
  | .adc_M => [0x8E]
  | .adc_A => [0x8F]
  | .sub_B => [0x90]
  | .sub_C => [0x91]
  | .sub_D => [0x92]
  | .sub_E => [0x93]
  | .sub_H => [0x94]
  | .sub_L => [0x95]
  | .sub_M => [0x96]
  | .sub_A => [0x97]
  | .sbb_B => [0x98]
  | .sbb_C => [0x99]
  | .sbb_D => [0x9A]
  | .sbb_E => [0x9B]
  | .sbb_H => [0x9C]
  | .sbb_L => [0x9D]
  | .sbb_M => [0x9E]
  | .sbb_A => [0x9F]
  | .ana_B => [0xA0]
  | .ana_C => [0xA1]
  | .ana_D => [0xA2]
  | .ana_E => [0xA3]
  | .ana_H => [0xA4]
  | .ana_L => [0xA5]
  | .ana_M => [0xA6]
  | .ana_A => [0xA7]
  | .xra_B => [0xA8]
  | .xra_C => [0xA9]
  | .xra_D => [0xAA]
  | .xra_E => [0xAB]
  | .xra_H => [0xAC]
  | .xra_L => [0xAD]
  | .xra_M => [0xAE]
  | .xra_A => [0xAF]
  | .ora_B => [0xB0]
  | .ora_C => [0xB1]
  | .ora_D => [0xB2]
  | .ora_E => [0xB3]
  | .ora_H => [0xB4]
  | .ora_L => [0xB5]
  | .ora_M => [0xB6]
  | .ora_A => [0xB7]
  | .cmp_B => [0xB8]
  | .cmp_C => [0xB9]
  | .cmp_D => [0xBA]
  | .cmp_E => [0xBB]
  | .cmp_H => [0xBC]
  | .cmp_L => [0xBD]
  | .cmp_M => [0xBE]
  | .cmp_A => [0xBF]
  | .rnz => [0xC0]
  | .pop_B => [0xC1]
  | .jnz v => 0xC2 :: operandBytes v
  | .jmp v => 0xC3 :: operandBytes v
  | .cnz v => 0xC4 :: operandBytes v
  | .push_B => [0xC5]
  | .adi v => [0xC6, v]
  | .rst_0 => [0xC7]
  | .rz => [0xC8]
  | .ret => [0xC9]
  | .jz v => 0xCA :: operandBytes v
  | .nop_CB => [0xCB]
  | .cz v => 0xCC :: operandBytes v
  | .call v => 0xCD :: operandBytes v
  | .aci v => [0xCE, v]
  | .rst_1 => [0xCF]
  | .rnc => [0xD0]
  | .pop_D => [0xD1]
  | .jnc v => 0xD2 :: operandBytes v
  | .outPort v => [0xD3, v]
  | .cnc v => 0xD4 :: operandBytes v
  | .push_D => [0xD5]
  | .sui v => [0xD6, v]
  | .rst_2 => [0xD7]
  | .rc => [0xD8]
  | .nop_D9 => [0xD9]
  | .jc v => 0xDA :: operandBytes v
  | .inPort v => [0xDB, v]
  | .cc v => 0xDC :: operandBytes v
  | .nop_DD => [0xDD]
  | .sbi v => [0xDE, v]
  | .rst_3 => [0xDF]
  | .rpo => [0xE0]
  | .pop_H => [0xE1]
  | .jpo v => 0xE2 :: operandBytes v
  | .xthl => [0xE3]
  | .cpo v => 0xE4 :: operandBytes v
  | .push_H => [0xE5]
  | .ani v => [0xE6, v]
  | .rst_4 => [0xE7]
  | .rpe => [0xE8]
  | .pchl => [0xE9]
  | .jpe v => 0xEA :: operandBytes v
  | .xchg => [0xEB]
  | .cpe v => 0xEC :: operandBytes v
  | .nop_ED => [0xED]
  | .xri v => [0xEE, v]
  | .rst_5 => [0xEF]
  | .rp => [0xF0]
  | .pop_PSW => [0xF1]
  | .jp v => 0xF2 :: operandBytes v
  | .di => [0xF3]
  | .cp v => 0xF4 :: operandBytes v
  | .push_PSW => [0xF5]
  | .ori v => [0xF6, v]
  | .rst_6 => [0xF7]
  | .rm => [0xF8]
  | .sphl => [0xF9]
  | .jm v => 0xFA :: operandBytes v
  | .ei => [0xFB]
  | .cm v => 0xFC :: operandBytes v
  | .nop_FD => [0xFD]
  | .cpi v => [0xFE, v]
  | .rst_7 => [0xFF]

end Sys2Proof
end

