-- ==== Sys2Proof/Machine/Ops.lean ====
section
/-! DEFINITION. Machine/Ops.lean: the named operations over registers (10_state.md R20 to R25), the banked memory
(20_memory.md), instruction fetch (30_encoding.md R80 to R84), the stack primitives (45_stack.md R270, R271) and the I/O
gateway primitives (60_exceptions.md R303, R304). The engine takes no exception and returns from none (R300, R305, R306), so
there is no operation for either. -/

namespace Sys2Proof.Machine

/-! ## The backing store -/

/-- Where byte `addr` of bank `bank` stands in the backing store (R8, R50). -/
def cellKey (bank : Fin 8) (addr : Word) : Nat := bank.val * Config.bankSize + addr.toNat

/-- The byte at a place of the backing store; a place not listed reads as the blank byte. -/
def Memory.read : Memory → Nat → Byte
  | [], _ => Config.blankByte
  | (k, v) :: rest, key => if key < k then Config.blankByte else if key = k then v else Memory.read rest key

/-- Put `v` in front of the cells that follow, or nothing where `v` is the blank byte. -/
def Memory.cons (key : Nat) (v : Byte) (rest : Memory) : Memory :=
  if v = Config.blankByte then rest else (key, v) :: rest

/-- Set the byte at a place of the backing store, keeping the canonical form. -/
def Memory.write : Memory → Nat → Byte → Memory
  | [], key, v => Memory.cons key v []
  | (k, w) :: rest, key, v =>
    if key < k then Memory.cons key v ((k, w) :: rest)
    else if key = k then Memory.cons key v rest
    else (k, w) :: Memory.write rest key v

/-- The canonical form: places strictly rising and inside the backing store, and no listed byte blank. -/
def Memory.wf : Memory → Bool
  | [] => true
  | (k, v) :: rest =>
    decide (k < Config.storeSize) && (v != Config.blankByte) && rest.all (fun c => decide (k < c.1)) && Memory.wf rest

/-- A state whose memory has the canonical form. -/
def State.wf (s : State) : Bool := Memory.wf s.mem

/-! ## Memory access -/

/-- `readByte(b, addr)` for a bank that exists (R59). -/
def State.readBank (s : State) (bank : Fin 8) (addr : Word) : Byte := Memory.read s.mem (cellKey bank addr)

/-- `writeByte(b, addr, v)` for a bank that exists (R59). -/
def State.writeBank (s : State) (bank : Fin 8) (addr : Word) (v : Byte) : State :=
  { s with mem := Memory.write s.mem (cellKey bank addr) v }

/-- `MemRead(addr, 1)`: the active bank (R52). -/
def State.readByte (s : State) (addr : Word) : Byte := s.readBank s.bank addr

/-- `MemWrite(addr, 1, v)`: the active bank (R53). -/
def State.writeByte (s : State) (addr : Word) (v : Byte) : State := s.writeBank s.bank addr v

/-- A 16-bit quantity of memory: the low byte at `addr`, the high byte at `addr + 1`, wrapping (R55, R56). -/
def State.readWord (s : State) (addr : Word) : Word := joinBytes (s.readByte (addr + 1)) (s.readByte addr)

/-- Store a 16-bit quantity: the low byte at `addr` first, then the high byte at `addr + 1` (R56, R61). -/
def State.writeWord (s : State) (addr : Word) (v : Word) : State :=
  (s.writeByte addr (loByte v)).writeByte (addr + 1) (hiByte v)

/-! ## Registers -/

/-- `x[R]` (R11). -/
def State.getReg (s : State) : Reg → Byte
  | .A => s.a
  | .B => s.b
  | .C => s.c
  | .D => s.d
  | .E => s.e
  | .H => s.h
  | .L => s.l

/-- `x[R] <- v` (R11). -/
def State.setReg (s : State) (r : Reg) (v : Byte) : State :=
  match r with
  | .A => { s with a := v }
  | .B => { s with b := v }
  | .C => { s with c := v }
  | .D => { s with d := v }
  | .E => { s with e := v }
  | .H => { s with h := v }
  | .L => { s with l := v }

/-- The high register of a pair (R22). -/
def pairHigh : Pair → Reg
  | .BC => .B
  | .DE => .D
  | .HL => .H

/-- The low register of a pair (R22). -/
def pairLow : Pair → Reg
  | .BC => .C
  | .DE => .E
  | .HL => .L

/-- `pair(RP)` (R22). -/
def State.getPair (s : State) (p : Pair) : Word := joinBytes (s.getReg (pairHigh p)) (s.getReg (pairLow p))

/-- `pair(RP) <- v` (R23). -/
def State.setPair (s : State) (p : Pair) (v : Word) : State :=
  (s.setReg (pairHigh p) (hiByte v)).setReg (pairLow p) (loByte v)

/-- `x[SP] <- v` (R11). -/
def State.setSp (s : State) (v : Word) : State := { s with sp := v }

/-- `pc <- v` (R11). -/
def State.setPc (s : State) (v : Word) : State := { s with pc := v }

/-- Replace the flag record (R26). -/
def State.setFlags (s : State) (f : Flags) : State := { s with flags := f }

/-- `F.CY <- b`, the other flags unchanged (R31). -/
def State.setCy (s : State) (cy : Bool) : State := { s with flags := { s.flags with cy := cy } }

/-- `halted <- b` (R35). -/
def State.setHalted (s : State) (b : Bool) : State := { s with halted := b }

/-- `interruptEnabled <- b` (R37). -/
def State.setInterruptEnabled (s : State) (b : Bool) : State := { s with interruptEnabled := b }

/-- `bank <- n` (R38). -/
def State.setBank (s : State) (n : Fin 8) : State := { s with bank := n }

/-- Append an event to the observation record (R326). -/
def State.record (s : State) (ev : IoEvent) : State := { s with events := s.events ++ [ev] }

/-- Count one present-slot read (D12; log entry 2). -/
def State.countInput (s : State) : State := { s with inputCount := s.inputCount + 1 }

/-! ## Instruction fetch -/

/-- `fetch8()`: the byte at `pc` of the active bank, then `pc <- pc + 1`, wrapping (R83). -/
def State.fetch8 (s : State) : Byte × State := (s.readByte s.pc, s.setPc (s.pc + 1))

/-- The opcode and operand bytes at `pc`, and the state once they are fetched: `pc` is then the address of the next
sequential instruction (R80, R81, R84). -/
def State.fetchInstr (s : State) : Instr × State :=
  let op := s.fetch8
  match opcodeLength op.1 with
  | 1 => (decodeBytes op.1 0 0, op.2)
  | 2 =>
    let x := op.2.fetch8
    (decodeBytes op.1 x.1 0, x.2)
  | _ =>
    let x := op.2.fetch8
    let y := x.2.fetch8
    (decodeBytes op.1 x.1 y.1, y.2)

/-! ## The stack -/

/-- `push16(v)` (R270): the high byte below the stack pointer, then the low byte below it. -/
def State.push16 (s : State) (v : Word) : State :=
  let s1 := s.setSp (s.sp - 1)
  let s2 := s1.writeByte s1.sp (hiByte v)
  let s3 := s2.setSp (s2.sp - 1)
  s3.writeByte s3.sp (loByte v)

/-- `pop16()` (R271): the low byte at the stack pointer, then the high byte above it. -/
def State.pop16 (s : State) : Word × State :=
  let lo := s.readByte s.sp
  let s1 := s.setSp (s.sp + 1)
  let hi := s1.readByte s1.sp
  (joinBytes hi lo, s1.setSp (s1.sp + 1))

/-! ## The I/O gateway -/

/-- `IoRead(p)` (R303): the fallback byte when the read slot is empty; else a free draw, recorded (R326, D12). -/
def State.ioRead (s : State) (port : Byte) : Byte × State :=
  if s.readSlot then
    let v := Config.ioReadOracle s.inputCount port
    (v, s.countInput.record (.input port v))
  else (Config.ioFallback, s)

/-- `IoWrite(p, v)` (R304): dropped when the write slot is empty; else recorded (R326, D13). -/
def State.ioWrite (s : State) (port v : Byte) : State :=
  if s.writeSlot then s.record (.output port v) else s

end Sys2Proof.Machine
end

