-- ==== Sys2Proof/Machine/Operands.lean ====
section
/-! DEFINITION. Machine/Operands.lean: reading and writing every operand form of 30_encoding.md R89 and R90. -/

namespace Sys2Proof.Machine

/-- `loc(k)`: a register, or the byte at HL of the active bank (R89). -/
def State.readLoc (s : State) : Loc → Byte
  | .reg r => s.getReg r
  | .M => s.readByte (s.getPair .HL)

/-- `loc(k) <- v` (R89). -/
def State.writeLoc (s : State) (k : Loc) (v : Byte) : State :=
  match k with
  | .reg r => s.setReg r v
  | .M => s.writeByte (s.getPair .HL) v

/-- `rpval(rp)` (R90). -/
def State.readRp (s : State) : RegPair → Word
  | .pair p => s.getPair p
  | .SP => s.sp

/-- `rpval(rp) <- v` (R90). -/
def State.writeRp (s : State) (rp : RegPair) (v : Word) : State :=
  match rp with
  | .pair p => s.setPair p v
  | .SP => s.setSp v

/-- The pair LDAX and STAX address memory through (R90). -/
def indPair : IndPair → Pair
  | .BC => .BC
  | .DE => .DE

/-- The address LDAX and STAX use (R151, R152). -/
def State.indAddr (s : State) (rp : IndPair) : Word := s.getPair (indPair rp)

end Sys2Proof.Machine
end

