-- ==== Sys2Proof/Machine/Arithmetic.lean ====
section
/-! DEFINITION. Machine/Arithmetic.lean: the arithmetic instructions (42_arithmetic.md R170 to R184). -/

namespace Sys2Proof.Machine

/-! ## Shared operations -/

/-- `x[A] <- add(x[A], v, withCarry)` (R170, R171, R174, R175). -/
def accAdd (v : Byte) (withCarry : Bool) (s : State) : State :=
  let r := aluAdd s.a v withCarry s.flags
  (s.setReg .A r.1).setFlags r.2

/-- `x[A] <- sub(x[A], v, withBorrow)` (R172, R173, R176, R177). -/
def accSub (v : Byte) (withBorrow : Bool) (s : State) : State :=
  let r := aluSub s.a v withBorrow s.flags
  (s.setReg .A r.1).setFlags r.2

/-- INR: S, Z and P only (R178, R180). -/
def inrOp (d : Loc) (s : State) : Result :=
  let r := s.readLoc d + 1
  .next ((s.writeLoc d r).setFlags (s.flags.arithmetic r))

/-- DCR: S, Z and P only (R179, R180). -/
def dcrOp (d : Loc) (s : State) : Result :=
  let r := s.readLoc d - 1
  .next ((s.writeLoc d r).setFlags (s.flags.arithmetic r))

/-- INX: no flag (R181). -/
def inxOp (rp : RegPair) (s : State) : Result := .next (s.writeRp rp (s.readRp rp + 1))

/-- DCX: no flag (R182). -/
def dcxOp (rp : RegPair) (s : State) : Result := .next (s.writeRp rp (s.readRp rp - 1))

/-- DAD: CY from the carry out of bit 15, the other flags unchanged (R183, D7). -/
def dadOp (rp : RegPair) (s : State) : Result :=
  let sum := (s.getPair .HL).toNat + (s.readRp rp).toNat
  .next ((s.setCy (decide (0xFFFF < sum))).setPair .HL (BitVec.ofNat 16 sum))

/-- DAA (R184). -/
def daaOp (s : State) : Result :=
  let r := aluDaa s.a s.flags
  .next ((s.setReg .A r.1).setFlags r.2)

/-! ## One meaning per instruction -/

/-- `INX B` (R181). -/
def execInx_B (s : State) : Result := inxOp (.pair .BC) s

/-- `INR B` (R178). -/
def execInr_B (s : State) : Result := inrOp (.reg .B) s

/-- `DCR B` (R179). -/
def execDcr_B (s : State) : Result := dcrOp (.reg .B) s

/-- `DAD B` (R183). -/
def execDad_B (s : State) : Result := dadOp (.pair .BC) s

/-- `DCX B` (R182). -/
def execDcx_B (s : State) : Result := dcxOp (.pair .BC) s

/-- `INR C` (R178). -/
def execInr_C (s : State) : Result := inrOp (.reg .C) s

/-- `DCR C` (R179). -/
def execDcr_C (s : State) : Result := dcrOp (.reg .C) s

/-- `INX D` (R181). -/
def execInx_D (s : State) : Result := inxOp (.pair .DE) s

/-- `INR D` (R178). -/
def execInr_D (s : State) : Result := inrOp (.reg .D) s

/-- `DCR D` (R179). -/
def execDcr_D (s : State) : Result := dcrOp (.reg .D) s

/-- `DAD D` (R183). -/
def execDad_D (s : State) : Result := dadOp (.pair .DE) s

/-- `DCX D` (R182). -/
def execDcx_D (s : State) : Result := dcxOp (.pair .DE) s

/-- `INR E` (R178). -/
def execInr_E (s : State) : Result := inrOp (.reg .E) s

/-- `DCR E` (R179). -/
def execDcr_E (s : State) : Result := dcrOp (.reg .E) s

/-- `INX H` (R181). -/
def execInx_H (s : State) : Result := inxOp (.pair .HL) s

/-- `INR H` (R178). -/
def execInr_H (s : State) : Result := inrOp (.reg .H) s

/-- `DCR H` (R179). -/
def execDcr_H (s : State) : Result := dcrOp (.reg .H) s

/-- `DAA` (R184). -/
def execDaa (s : State) : Result := daaOp s

/-- `DAD H` (R183). -/
def execDad_H (s : State) : Result := dadOp (.pair .HL) s

/-- `DCX H` (R182). -/
def execDcx_H (s : State) : Result := dcxOp (.pair .HL) s

/-- `INR L` (R178). -/
def execInr_L (s : State) : Result := inrOp (.reg .L) s

/-- `DCR L` (R179). -/
def execDcr_L (s : State) : Result := dcrOp (.reg .L) s

/-- `INX SP` (R181). -/
def execInx_SP (s : State) : Result := inxOp .SP s

/-- `INR M` (R178). -/
def execInr_M (s : State) : Result := inrOp .M s

/-- `DCR M` (R179). -/
def execDcr_M (s : State) : Result := dcrOp .M s

/-- `DAD SP` (R183). -/
def execDad_SP (s : State) : Result := dadOp .SP s

/-- `DCX SP` (R182). -/
def execDcx_SP (s : State) : Result := dcxOp .SP s

/-- `INR A` (R178). -/
def execInr_A (s : State) : Result := inrOp (.reg .A) s

/-- `DCR A` (R179). -/
def execDcr_A (s : State) : Result := dcrOp (.reg .A) s

/-- `ADD B` (R170). -/
def execAdd_B (s : State) : Result := .next (accAdd (s.readLoc (.reg .B)) false s)

/-- `ADD C` (R170). -/
def execAdd_C (s : State) : Result := .next (accAdd (s.readLoc (.reg .C)) false s)

/-- `ADD D` (R170). -/
def execAdd_D (s : State) : Result := .next (accAdd (s.readLoc (.reg .D)) false s)

/-- `ADD E` (R170). -/
def execAdd_E (s : State) : Result := .next (accAdd (s.readLoc (.reg .E)) false s)

/-- `ADD H` (R170). -/
def execAdd_H (s : State) : Result := .next (accAdd (s.readLoc (.reg .H)) false s)

/-- `ADD L` (R170). -/
def execAdd_L (s : State) : Result := .next (accAdd (s.readLoc (.reg .L)) false s)

/-- `ADD M` (R170). -/
def execAdd_M (s : State) : Result := .next (accAdd (s.readLoc .M) false s)

/-- `ADD A` (R170). -/
def execAdd_A (s : State) : Result := .next (accAdd (s.readLoc (.reg .A)) false s)

/-- `ADC B` (R171). -/
def execAdc_B (s : State) : Result := .next (accAdd (s.readLoc (.reg .B)) true s)

/-- `ADC C` (R171). -/
def execAdc_C (s : State) : Result := .next (accAdd (s.readLoc (.reg .C)) true s)

/-- `ADC D` (R171). -/
def execAdc_D (s : State) : Result := .next (accAdd (s.readLoc (.reg .D)) true s)

/-- `ADC E` (R171). -/
def execAdc_E (s : State) : Result := .next (accAdd (s.readLoc (.reg .E)) true s)

/-- `ADC H` (R171). -/
def execAdc_H (s : State) : Result := .next (accAdd (s.readLoc (.reg .H)) true s)

/-- `ADC L` (R171). -/
def execAdc_L (s : State) : Result := .next (accAdd (s.readLoc (.reg .L)) true s)

/-- `ADC M` (R171). -/
def execAdc_M (s : State) : Result := .next (accAdd (s.readLoc .M) true s)

/-- `ADC A` (R171). -/
def execAdc_A (s : State) : Result := .next (accAdd (s.readLoc (.reg .A)) true s)

/-- `SUB B` (R172). -/
def execSub_B (s : State) : Result := .next (accSub (s.readLoc (.reg .B)) false s)

/-- `SUB C` (R172). -/
def execSub_C (s : State) : Result := .next (accSub (s.readLoc (.reg .C)) false s)

/-- `SUB D` (R172). -/
def execSub_D (s : State) : Result := .next (accSub (s.readLoc (.reg .D)) false s)

/-- `SUB E` (R172). -/
def execSub_E (s : State) : Result := .next (accSub (s.readLoc (.reg .E)) false s)

/-- `SUB H` (R172). -/
def execSub_H (s : State) : Result := .next (accSub (s.readLoc (.reg .H)) false s)

/-- `SUB L` (R172). -/
def execSub_L (s : State) : Result := .next (accSub (s.readLoc (.reg .L)) false s)

/-- `SUB M` (R172). -/
def execSub_M (s : State) : Result := .next (accSub (s.readLoc .M) false s)

/-- `SUB A` (R172). -/
def execSub_A (s : State) : Result := .next (accSub (s.readLoc (.reg .A)) false s)

/-- `SBB B` (R173). -/
def execSbb_B (s : State) : Result := .next (accSub (s.readLoc (.reg .B)) true s)

/-- `SBB C` (R173). -/
def execSbb_C (s : State) : Result := .next (accSub (s.readLoc (.reg .C)) true s)

/-- `SBB D` (R173). -/
def execSbb_D (s : State) : Result := .next (accSub (s.readLoc (.reg .D)) true s)

/-- `SBB E` (R173). -/
def execSbb_E (s : State) : Result := .next (accSub (s.readLoc (.reg .E)) true s)

/-- `SBB H` (R173). -/
def execSbb_H (s : State) : Result := .next (accSub (s.readLoc (.reg .H)) true s)

/-- `SBB L` (R173). -/
def execSbb_L (s : State) : Result := .next (accSub (s.readLoc (.reg .L)) true s)

/-- `SBB M` (R173). -/
def execSbb_M (s : State) : Result := .next (accSub (s.readLoc .M) true s)

/-- `SBB A` (R173). -/
def execSbb_A (s : State) : Result := .next (accSub (s.readLoc (.reg .A)) true s)

/-- `ADI d8` (R174). -/
def execAdi (d8 : Byte) (s : State) : Result := .next (accAdd d8 false s)

/-- `ACI d8` (R175). -/
def execAci (d8 : Byte) (s : State) : Result := .next (accAdd d8 true s)

/-- `SUI d8` (R176). -/
def execSui (d8 : Byte) (s : State) : Result := .next (accSub d8 false s)

/-- `SBI d8` (R177). -/
def execSbi (d8 : Byte) (s : State) : Result := .next (accSub d8 true s)

end Sys2Proof.Machine
end

