-- ==== Sys2Proof/Machine/Branch.lean ====
section
/-! DEFINITION. Machine/Branch.lean: the branch, call, return and restart instructions (44_branch.md R230 to R263). `pc` is the
address of the next sequential instruction when a meaning starts (R81; log entry 4). -/

namespace Sys2Proof.Machine

/-! ## Shared operations -/

/-- JMP (R231). -/
def jumpOp (target : Word) (s : State) : Result := .next (s.setPc target)

/-- A conditional jump (R232). -/
def jumpIfOp (c : Cond) (target : Word) (s : State) : Result :=
  if condHolds c s.flags then jumpOp target s else .next s

/-- CALL: push the address of the next instruction, then jump (R241). -/
def callOp (target : Word) (s : State) : Result := .next ((s.push16 s.pc).setPc target)

/-- A conditional call: nothing is pushed when it is not taken (R242). -/
def callIfOp (c : Cond) (target : Word) (s : State) : Result :=
  if condHolds c s.flags then callOp target s else .next s

/-- RET (R251). -/
def retOp (s : State) : Result :=
  let r := s.pop16
  .next (r.2.setPc r.1)

/-- A conditional return: nothing is popped when it is not taken (R252). -/
def retIfOp (c : Cond) (s : State) : Result :=
  if condHolds c s.flags then retOp s else .next s

/-- The target of RST `n`: `n * 8`, zero-extended (R93). -/
def rstTarget (n : BitVec 3) : Word := BitVec.ofNat 16 (n.toNat * 8)

/-- RST: an ordinary call to its vector (R261, R305). -/
def rstOp (n : BitVec 3) (s : State) : Result := callOp (rstTarget n) s

/-- PCHL (R262). -/
def pchlOp (s : State) : Result := .next (s.setPc (s.getPair .HL))

/-! ## One meaning per instruction -/

/-- `RNZ` (R253). -/
def execRnz (s : State) : Result := retIfOp .NZ s

/-- `JNZ a16` (R233). -/
def execJnz (a16 : Word) (s : State) : Result := jumpIfOp .NZ a16 s

/-- `JMP a16` (R231). -/
def execJmp (a16 : Word) (s : State) : Result := jumpOp a16 s

/-- `CNZ a16` (R243). -/
def execCnz (a16 : Word) (s : State) : Result := callIfOp .NZ a16 s

/-- `RST 0` (R261). -/
def execRst_0 (s : State) : Result := rstOp 0 s

/-- `RZ` (R254). -/
def execRz (s : State) : Result := retIfOp .Z s

/-- `RET` (R251). -/
def execRet (s : State) : Result := retOp s

/-- `JZ a16` (R234). -/
def execJz (a16 : Word) (s : State) : Result := jumpIfOp .Z a16 s

/-- `CZ a16` (R244). -/
def execCz (a16 : Word) (s : State) : Result := callIfOp .Z a16 s

/-- `CALL a16` (R241). -/
def execCall (a16 : Word) (s : State) : Result := callOp a16 s

/-- `RST 1` (R261). -/
def execRst_1 (s : State) : Result := rstOp 1 s

/-- `RNC` (R255). -/
def execRnc (s : State) : Result := retIfOp .NC s

/-- `JNC a16` (R235). -/
def execJnc (a16 : Word) (s : State) : Result := jumpIfOp .NC a16 s

/-- `CNC a16` (R245). -/
def execCnc (a16 : Word) (s : State) : Result := callIfOp .NC a16 s

/-- `RST 2` (R261). -/
def execRst_2 (s : State) : Result := rstOp 2 s

/-- `RC` (R256). -/
def execRc (s : State) : Result := retIfOp .C s

/-- `JC a16` (R236). -/
def execJc (a16 : Word) (s : State) : Result := jumpIfOp .C a16 s

/-- `CC a16` (R246). -/
def execCc (a16 : Word) (s : State) : Result := callIfOp .C a16 s

/-- `RST 3` (R261). -/
def execRst_3 (s : State) : Result := rstOp 3 s

/-- `RPO` (R257). -/
def execRpo (s : State) : Result := retIfOp .PO s

/-- `JPO a16` (R237). -/
def execJpo (a16 : Word) (s : State) : Result := jumpIfOp .PO a16 s

/-- `CPO a16` (R247). -/
def execCpo (a16 : Word) (s : State) : Result := callIfOp .PO a16 s

/-- `RST 4` (R261). -/
def execRst_4 (s : State) : Result := rstOp 4 s

/-- `RPE` (R258). -/
def execRpe (s : State) : Result := retIfOp .PE s

/-- `PCHL` (R262). -/
def execPchl (s : State) : Result := pchlOp s

/-- `JPE a16` (R238). -/
def execJpe (a16 : Word) (s : State) : Result := jumpIfOp .PE a16 s

/-- `CPE a16` (R248). -/
def execCpe (a16 : Word) (s : State) : Result := callIfOp .PE a16 s

/-- `RST 5` (R261). -/
def execRst_5 (s : State) : Result := rstOp 5 s

/-- `RP` (R259). -/
def execRp (s : State) : Result := retIfOp .P s

/-- `JP a16` (R239). -/
def execJp (a16 : Word) (s : State) : Result := jumpIfOp .P a16 s

/-- `CP a16` (R249). -/
def execCp (a16 : Word) (s : State) : Result := callIfOp .P a16 s

/-- `RST 6` (R261). -/
def execRst_6 (s : State) : Result := rstOp 6 s

/-- `RM` (R260). -/
def execRm (s : State) : Result := retIfOp .M s

/-- `JM a16` (R240). -/
def execJm (a16 : Word) (s : State) : Result := jumpIfOp .M a16 s

/-- `CM a16` (R250). -/
def execCm (a16 : Word) (s : State) : Result := callIfOp .M a16 s

/-- `RST 7` (R261). -/
def execRst_7 (s : State) : Result := rstOp 7 s

end Sys2Proof.Machine
end

