-- ==== Sys2Proof/Machine/IoControl.lean ====
section
/-! DEFINITION. Machine/IoControl.lean: the I/O and control instructions (46_io_control.md R285 to R293). -/

namespace Sys2Proof.Machine

/-! ## Shared operations -/

/-- IN: the port's byte to A (R285). -/
def inOp (port : Byte) (s : State) : Result :=
  let r := s.ioRead port
  .next (r.2.setReg .A r.1)

/-- The bank OUT to port 254 selects: the low 3 bits of A (R286). -/
def bankOfA (s : State) : Fin 8 := Fin.ofNat 8 (s.a &&& 7).toNat

/-- OUT: port 254 selects the bank and never reaches the write slot; any other port is written (R286, R326). -/
def outOp (port : Byte) (s : State) : Result :=
  if port = Config.bankPort then .next ((s.setBank (bankOfA s)).record (.bankSelect (bankOfA s)))
  else .next (s.ioWrite port s.a)

/-- NOP and the ten undocumented values: only the fetch's `pc` advance happens (R287, R288). -/
def nopOp (s : State) : Result := .next s

/-- EI: at once, with no delay (R289, D23). -/
def eiOp (s : State) : Result := .next (s.setInterruptEnabled true)

/-- DI (R290). -/
def diOp (s : State) : Result := .next (s.setInterruptEnabled false)

/-- RIM: A is cleared, and no flag is written (R291, D6). -/
def rimOp (s : State) : Result := .next (s.setReg .A 0x00)

/-- SIM: a no-op (R292, D6). -/
def simOp (s : State) : Result := .next s

/-- HLT (R293). -/
def hltOp (s : State) : Result := .next (s.setHalted true)

/-! ## One meaning per instruction -/

/-- `NOP` (R287). -/
def execNop (s : State) : Result := nopOp s

/-- `NOP*` (R288). -/
def execNop_08 (s : State) : Result := nopOp s

/-- `NOP*` (R288). -/
def execNop_10 (s : State) : Result := nopOp s

/-- `NOP*` (R288). -/
def execNop_18 (s : State) : Result := nopOp s

/-- `RIM` (R291). -/
def execRim (s : State) : Result := rimOp s

/-- `NOP*` (R288). -/
def execNop_28 (s : State) : Result := nopOp s

/-- `SIM` (R292). -/
def execSim (s : State) : Result := simOp s

/-- `NOP*` (R288). -/
def execNop_38 (s : State) : Result := nopOp s

/-- `HLT` (R293). -/
def execHlt (s : State) : Result := hltOp s

/-- `NOP*` (R288). -/
def execNop_CB (s : State) : Result := nopOp s

/-- `OUT port` (R286). -/
def execOutPort (port : Byte) (s : State) : Result := outOp port s

/-- `NOP*` (R288). -/
def execNop_D9 (s : State) : Result := nopOp s

/-- `IN port` (R285). -/
def execInPort (port : Byte) (s : State) : Result := inOp port s

/-- `NOP*` (R288). -/
def execNop_DD (s : State) : Result := nopOp s

/-- `NOP*` (R288). -/
def execNop_ED (s : State) : Result := nopOp s

/-- `DI` (R290). -/
def execDi (s : State) : Result := diOp s

/-- `EI` (R289). -/
def execEi (s : State) : Result := eiOp s

/-- `NOP*` (R288). -/
def execNop_FD (s : State) : Result := nopOp s

end Sys2Proof.Machine
end

