-- ==== Sys2Proof/Machine/Logical.lean ====
section
/-! DEFINITION. Machine/Logical.lean: the logical, compare, rotate and carry-flag instructions (43_logical.md R200 to R214). -/

namespace Sys2Proof.Machine

/-! ## Shared operations -/

/-- `r` to A, with S, Z and P from it and CY and AC cleared (R113). -/
def accLogical (r : Byte) (s : State) : State := (s.setReg .A r).setFlags (s.flags.logical r)

/-- `x[A] <- x[A] & v` (R200, R204). -/
def accAnd (v : Byte) (s : State) : State := accLogical (s.a &&& v) s

/-- `x[A] <- x[A] ^ v` (R201, R205). -/
def accXor (v : Byte) (s : State) : State := accLogical (s.a ^^^ v) s

/-- `x[A] <- x[A] | v` (R202, R206). -/
def accOr (v : Byte) (s : State) : State := accLogical (s.a ||| v) s

/-- `sub(x[A], v, false)` with its result discarded (R203, R207). -/
def accCmp (v : Byte) (s : State) : State := s.setFlags (aluSub s.a v false s.flags).2

/-- RLC (R208). -/
def rlcOp (s : State) : Result :=
  let b := s.a.getLsbD 7
  .next ((s.setReg .A ((s.a <<< 1) ||| BitVec.ofNat 8 (bit b))).setCy b)

/-- RRC (R209). -/
def rrcOp (s : State) : Result :=
  let b := s.a.getLsbD 0
  .next ((s.setReg .A ((s.a >>> 1) ||| BitVec.ofNat 8 (bit b * 0x80))).setCy b)

/-- RAL: the old CY enters bit 0 (R210). -/
def ralOp (s : State) : Result :=
  let b := s.a.getLsbD 7
  .next ((s.setReg .A ((s.a <<< 1) ||| BitVec.ofNat 8 (bit s.flags.cy))).setCy b)

/-- RAR: the old CY enters bit 7 (R211). -/
def rarOp (s : State) : Result :=
  let b := s.a.getLsbD 0
  .next ((s.setReg .A ((s.a >>> 1) ||| BitVec.ofNat 8 (bit s.flags.cy * 0x80))).setCy b)

/-- CMA: no flag (R212). -/
def cmaOp (s : State) : Result := .next (s.setReg .A (~~~ s.a))

/-- STC (R213). -/
def stcOp (s : State) : Result := .next (s.setCy true)

/-- CMC (R214). -/
def cmcOp (s : State) : Result := .next (s.setCy (!s.flags.cy))

/-! ## One meaning per instruction -/

/-- `RLC` (R208). -/
def execRlc (s : State) : Result := rlcOp s

/-- `RRC` (R209). -/
def execRrc (s : State) : Result := rrcOp s

/-- `RAL` (R210). -/
def execRal (s : State) : Result := ralOp s

/-- `RAR` (R211). -/
def execRar (s : State) : Result := rarOp s

/-- `CMA` (R212). -/
def execCma (s : State) : Result := cmaOp s

/-- `STC` (R213). -/
def execStc (s : State) : Result := stcOp s

/-- `CMC` (R214). -/
def execCmc (s : State) : Result := cmcOp s

/-- `ANA B` (R200). -/
def execAna_B (s : State) : Result := .next (accAnd (s.readLoc (.reg .B)) s)

/-- `ANA C` (R200). -/
def execAna_C (s : State) : Result := .next (accAnd (s.readLoc (.reg .C)) s)

/-- `ANA D` (R200). -/
def execAna_D (s : State) : Result := .next (accAnd (s.readLoc (.reg .D)) s)

/-- `ANA E` (R200). -/
def execAna_E (s : State) : Result := .next (accAnd (s.readLoc (.reg .E)) s)

/-- `ANA H` (R200). -/
def execAna_H (s : State) : Result := .next (accAnd (s.readLoc (.reg .H)) s)

/-- `ANA L` (R200). -/
def execAna_L (s : State) : Result := .next (accAnd (s.readLoc (.reg .L)) s)

/-- `ANA M` (R200). -/
def execAna_M (s : State) : Result := .next (accAnd (s.readLoc .M) s)

/-- `ANA A` (R200). -/
def execAna_A (s : State) : Result := .next (accAnd (s.readLoc (.reg .A)) s)

/-- `XRA B` (R201). -/
def execXra_B (s : State) : Result := .next (accXor (s.readLoc (.reg .B)) s)

/-- `XRA C` (R201). -/
def execXra_C (s : State) : Result := .next (accXor (s.readLoc (.reg .C)) s)

/-- `XRA D` (R201). -/
def execXra_D (s : State) : Result := .next (accXor (s.readLoc (.reg .D)) s)

/-- `XRA E` (R201). -/
def execXra_E (s : State) : Result := .next (accXor (s.readLoc (.reg .E)) s)

/-- `XRA H` (R201). -/
def execXra_H (s : State) : Result := .next (accXor (s.readLoc (.reg .H)) s)

/-- `XRA L` (R201). -/
def execXra_L (s : State) : Result := .next (accXor (s.readLoc (.reg .L)) s)

/-- `XRA M` (R201). -/
def execXra_M (s : State) : Result := .next (accXor (s.readLoc .M) s)

/-- `XRA A` (R201). -/
def execXra_A (s : State) : Result := .next (accXor (s.readLoc (.reg .A)) s)

/-- `ORA B` (R202). -/
def execOra_B (s : State) : Result := .next (accOr (s.readLoc (.reg .B)) s)

/-- `ORA C` (R202). -/
def execOra_C (s : State) : Result := .next (accOr (s.readLoc (.reg .C)) s)

/-- `ORA D` (R202). -/
def execOra_D (s : State) : Result := .next (accOr (s.readLoc (.reg .D)) s)

/-- `ORA E` (R202). -/
def execOra_E (s : State) : Result := .next (accOr (s.readLoc (.reg .E)) s)

/-- `ORA H` (R202). -/
def execOra_H (s : State) : Result := .next (accOr (s.readLoc (.reg .H)) s)

/-- `ORA L` (R202). -/
def execOra_L (s : State) : Result := .next (accOr (s.readLoc (.reg .L)) s)

/-- `ORA M` (R202). -/
def execOra_M (s : State) : Result := .next (accOr (s.readLoc .M) s)

/-- `ORA A` (R202). -/
def execOra_A (s : State) : Result := .next (accOr (s.readLoc (.reg .A)) s)

/-- `CMP B` (R203). -/
def execCmp_B (s : State) : Result := .next (accCmp (s.readLoc (.reg .B)) s)

/-- `CMP C` (R203). -/
def execCmp_C (s : State) : Result := .next (accCmp (s.readLoc (.reg .C)) s)

/-- `CMP D` (R203). -/
def execCmp_D (s : State) : Result := .next (accCmp (s.readLoc (.reg .D)) s)

/-- `CMP E` (R203). -/
def execCmp_E (s : State) : Result := .next (accCmp (s.readLoc (.reg .E)) s)

/-- `CMP H` (R203). -/
def execCmp_H (s : State) : Result := .next (accCmp (s.readLoc (.reg .H)) s)

/-- `CMP L` (R203). -/
def execCmp_L (s : State) : Result := .next (accCmp (s.readLoc (.reg .L)) s)

/-- `CMP M` (R203). -/
def execCmp_M (s : State) : Result := .next (accCmp (s.readLoc .M) s)

/-- `CMP A` (R203). -/
def execCmp_A (s : State) : Result := .next (accCmp (s.readLoc (.reg .A)) s)

/-- `ANI d8` (R204). -/
def execAni (d8 : Byte) (s : State) : Result := .next (accAnd d8 s)

/-- `XRI d8` (R205). -/
def execXri (d8 : Byte) (s : State) : Result := .next (accXor d8 s)

/-- `ORI d8` (R206). -/
def execOri (d8 : Byte) (s : State) : Result := .next (accOr d8 s)

/-- `CPI d8` (R207). -/
def execCpi (d8 : Byte) (s : State) : Result := .next (accCmp d8 s)

end Sys2Proof.Machine
end

