-- ==== Sys2Proof/Machine/Stack.lean ====
section
/-! DEFINITION. Machine/Stack.lean: the stack instructions (45_stack.md R270 to R278). -/

namespace Sys2Proof.Machine

/-! ## Shared operations -/

/-- PUSH of a register pair (R272). -/
def pushOp (p : Pair) (s : State) : Result := .next (s.push16 (s.getPair p))

/-- POP of a register pair (R273). -/
def popOp (p : Pair) (s : State) : Result :=
  let r := s.pop16
  .next (r.2.setPair p r.1)

/-- The word PUSH PSW stores: A above the packed flag byte (R274, D3). -/
def State.psw (s : State) : Word := joinBytes s.a s.flags.pack

/-- PUSH PSW (R274). -/
def pushPswOp (s : State) : Result := .next (s.push16 s.psw)

/-- POP PSW (R275). -/
def popPswOp (s : State) : Result :=
  let r := s.pop16
  .next ((r.2.setReg .A (hiByte r.1)).setFlags (Flags.unpack (loByte r.1)))

/-- XTHL: both bytes are read before either is written (R276, D16). -/
def xthlOp (s : State) : Result :=
  .next ((s.writeWord s.sp (s.getPair .HL)).setPair .HL (s.readWord s.sp))

/-- SPHL (R277). -/
def sphlOp (s : State) : Result := .next (s.setSp (s.getPair .HL))

/-! ## One meaning per instruction -/

/-- `POP B` (R273). -/
def execPop_B (s : State) : Result := popOp .BC s

/-- `PUSH B` (R272). -/
def execPush_B (s : State) : Result := pushOp .BC s

/-- `POP D` (R273). -/
def execPop_D (s : State) : Result := popOp .DE s

/-- `PUSH D` (R272). -/
def execPush_D (s : State) : Result := pushOp .DE s

/-- `POP H` (R273). -/
def execPop_H (s : State) : Result := popOp .HL s

/-- `XTHL` (R276). -/
def execXthl (s : State) : Result := xthlOp s

/-- `PUSH H` (R272). -/
def execPush_H (s : State) : Result := pushOp .HL s

/-- `POP PSW` (R275). -/
def execPop_PSW (s : State) : Result := popPswOp s

/-- `PUSH PSW` (R274). -/
def execPush_PSW (s : State) : Result := pushPswOp s

/-- `SPHL` (R277). -/
def execSphl (s : State) : Result := sphlOp s

end Sys2Proof.Machine
end

