-- ==== Sys2Proof/Machine/Transfer.lean ====
section
/-! DEFINITION. Machine/Transfer.lean: the transfer instructions (41_transfer.md R140 to R153). No flag is written (R140). -/

namespace Sys2Proof.Machine

/-! ## Shared operations -/

/-- MOV: the source is read before the destination is written (R141, R142, R143). -/
def movOp (d src : Loc) (s : State) : Result := .next (s.writeLoc d (s.readLoc src))

/-- MVI (R144, R145). -/
def mviOp (d : Loc) (v : Byte) (s : State) : Result := .next (s.writeLoc d v)

/-- LXI (R146). -/
def lxiOp (rp : RegPair) (v : Word) (s : State) : Result := .next (s.writeRp rp v)

/-- LDA (R147). -/
def ldaOp (addr : Word) (s : State) : Result := .next (s.setReg .A (s.readByte addr))

/-- STA (R148). -/
def staOp (addr : Word) (s : State) : Result := .next (s.writeByte addr s.a)

/-- LHLD: L from the address, H from the address after it (R149). -/
def lhldOp (addr : Word) (s : State) : Result := .next (s.setPair .HL (s.readWord addr))

/-- SHLD: L to the address, then H to the address after it (R150). -/
def shldOp (addr : Word) (s : State) : Result := .next (s.writeWord addr (s.getPair .HL))

/-- LDAX (R151). -/
def ldaxOp (rp : IndPair) (s : State) : Result := .next (s.setReg .A (s.readByte (s.indAddr rp)))

/-- STAX (R152). -/
def staxOp (rp : IndPair) (s : State) : Result := .next (s.writeByte (s.indAddr rp) s.a)

/-- XCHG (R153). -/
def xchgOp (s : State) : Result := .next ((s.setPair .HL (s.getPair .DE)).setPair .DE (s.getPair .HL))

/-! ## One meaning per instruction -/

/-- `LXI B,d16` (R146). -/
def execLxi_B (d16 : Word) (s : State) : Result := lxiOp (.pair .BC) d16 s

/-- `STAX B` (R152). -/
def execStax_B (s : State) : Result := staxOp .BC s

/-- `MVI B,d8` (R144). -/
def execMvi_B (d8 : Byte) (s : State) : Result := mviOp (.reg .B) d8 s

/-- `LDAX B` (R151). -/
def execLdax_B (s : State) : Result := ldaxOp .BC s

/-- `MVI C,d8` (R144). -/
def execMvi_C (d8 : Byte) (s : State) : Result := mviOp (.reg .C) d8 s

/-- `LXI D,d16` (R146). -/
def execLxi_D (d16 : Word) (s : State) : Result := lxiOp (.pair .DE) d16 s

/-- `STAX D` (R152). -/
def execStax_D (s : State) : Result := staxOp .DE s

/-- `MVI D,d8` (R144). -/
def execMvi_D (d8 : Byte) (s : State) : Result := mviOp (.reg .D) d8 s

/-- `LDAX D` (R151). -/
def execLdax_D (s : State) : Result := ldaxOp .DE s

/-- `MVI E,d8` (R144). -/
def execMvi_E (d8 : Byte) (s : State) : Result := mviOp (.reg .E) d8 s

/-- `LXI H,d16` (R146). -/
def execLxi_H (d16 : Word) (s : State) : Result := lxiOp (.pair .HL) d16 s

/-- `SHLD a16` (R150). -/
def execShld (a16 : Word) (s : State) : Result := shldOp a16 s

/-- `MVI H,d8` (R144). -/
def execMvi_H (d8 : Byte) (s : State) : Result := mviOp (.reg .H) d8 s

/-- `LHLD a16` (R149). -/
def execLhld (a16 : Word) (s : State) : Result := lhldOp a16 s

/-- `MVI L,d8` (R144). -/
def execMvi_L (d8 : Byte) (s : State) : Result := mviOp (.reg .L) d8 s

/-- `LXI SP,d16` (R146). -/
def execLxi_SP (d16 : Word) (s : State) : Result := lxiOp .SP d16 s

/-- `STA a16` (R148). -/
def execSta (a16 : Word) (s : State) : Result := staOp a16 s

/-- `MVI M,d8` (R145). -/
def execMvi_M (d8 : Byte) (s : State) : Result := mviOp .M d8 s

/-- `LDA a16` (R147). -/
def execLda (a16 : Word) (s : State) : Result := ldaOp a16 s

/-- `MVI A,d8` (R144). -/
def execMvi_A (d8 : Byte) (s : State) : Result := mviOp (.reg .A) d8 s

/-- `MOV B,B` (R141). -/
def execMov_B_B (s : State) : Result := movOp (.reg .B) (.reg .B) s

/-- `MOV B,C` (R141). -/
def execMov_B_C (s : State) : Result := movOp (.reg .B) (.reg .C) s

/-- `MOV B,D` (R141). -/
def execMov_B_D (s : State) : Result := movOp (.reg .B) (.reg .D) s

/-- `MOV B,E` (R141). -/
def execMov_B_E (s : State) : Result := movOp (.reg .B) (.reg .E) s

/-- `MOV B,H` (R141). -/
def execMov_B_H (s : State) : Result := movOp (.reg .B) (.reg .H) s

/-- `MOV B,L` (R141). -/
def execMov_B_L (s : State) : Result := movOp (.reg .B) (.reg .L) s

/-- `MOV B,M` (R142). -/
def execMov_B_M (s : State) : Result := movOp (.reg .B) .M s

/-- `MOV B,A` (R141). -/
def execMov_B_A (s : State) : Result := movOp (.reg .B) (.reg .A) s

/-- `MOV C,B` (R141). -/
def execMov_C_B (s : State) : Result := movOp (.reg .C) (.reg .B) s

/-- `MOV C,C` (R141). -/
def execMov_C_C (s : State) : Result := movOp (.reg .C) (.reg .C) s

/-- `MOV C,D` (R141). -/
def execMov_C_D (s : State) : Result := movOp (.reg .C) (.reg .D) s

/-- `MOV C,E` (R141). -/
def execMov_C_E (s : State) : Result := movOp (.reg .C) (.reg .E) s

/-- `MOV C,H` (R141). -/
def execMov_C_H (s : State) : Result := movOp (.reg .C) (.reg .H) s

/-- `MOV C,L` (R141). -/
def execMov_C_L (s : State) : Result := movOp (.reg .C) (.reg .L) s

/-- `MOV C,M` (R142). -/
def execMov_C_M (s : State) : Result := movOp (.reg .C) .M s

/-- `MOV C,A` (R141). -/
def execMov_C_A (s : State) : Result := movOp (.reg .C) (.reg .A) s

/-- `MOV D,B` (R141). -/
def execMov_D_B (s : State) : Result := movOp (.reg .D) (.reg .B) s

/-- `MOV D,C` (R141). -/
def execMov_D_C (s : State) : Result := movOp (.reg .D) (.reg .C) s

/-- `MOV D,D` (R141). -/
def execMov_D_D (s : State) : Result := movOp (.reg .D) (.reg .D) s

/-- `MOV D,E` (R141). -/
def execMov_D_E (s : State) : Result := movOp (.reg .D) (.reg .E) s

/-- `MOV D,H` (R141). -/
def execMov_D_H (s : State) : Result := movOp (.reg .D) (.reg .H) s

/-- `MOV D,L` (R141). -/
def execMov_D_L (s : State) : Result := movOp (.reg .D) (.reg .L) s

/-- `MOV D,M` (R142). -/
def execMov_D_M (s : State) : Result := movOp (.reg .D) .M s

/-- `MOV D,A` (R141). -/
def execMov_D_A (s : State) : Result := movOp (.reg .D) (.reg .A) s

/-- `MOV E,B` (R141). -/
def execMov_E_B (s : State) : Result := movOp (.reg .E) (.reg .B) s

/-- `MOV E,C` (R141). -/
def execMov_E_C (s : State) : Result := movOp (.reg .E) (.reg .C) s

/-- `MOV E,D` (R141). -/
def execMov_E_D (s : State) : Result := movOp (.reg .E) (.reg .D) s

/-- `MOV E,E` (R141). -/
def execMov_E_E (s : State) : Result := movOp (.reg .E) (.reg .E) s

/-- `MOV E,H` (R141). -/
def execMov_E_H (s : State) : Result := movOp (.reg .E) (.reg .H) s

/-- `MOV E,L` (R141). -/
def execMov_E_L (s : State) : Result := movOp (.reg .E) (.reg .L) s

/-- `MOV E,M` (R142). -/
def execMov_E_M (s : State) : Result := movOp (.reg .E) .M s

/-- `MOV E,A` (R141). -/
def execMov_E_A (s : State) : Result := movOp (.reg .E) (.reg .A) s

/-- `MOV H,B` (R141). -/
def execMov_H_B (s : State) : Result := movOp (.reg .H) (.reg .B) s

/-- `MOV H,C` (R141). -/
def execMov_H_C (s : State) : Result := movOp (.reg .H) (.reg .C) s

/-- `MOV H,D` (R141). -/
def execMov_H_D (s : State) : Result := movOp (.reg .H) (.reg .D) s

/-- `MOV H,E` (R141). -/
def execMov_H_E (s : State) : Result := movOp (.reg .H) (.reg .E) s

/-- `MOV H,H` (R141). -/
def execMov_H_H (s : State) : Result := movOp (.reg .H) (.reg .H) s

/-- `MOV H,L` (R141). -/
def execMov_H_L (s : State) : Result := movOp (.reg .H) (.reg .L) s

/-- `MOV H,M` (R142). -/
def execMov_H_M (s : State) : Result := movOp (.reg .H) .M s

/-- `MOV H,A` (R141). -/
def execMov_H_A (s : State) : Result := movOp (.reg .H) (.reg .A) s

/-- `MOV L,B` (R141). -/
def execMov_L_B (s : State) : Result := movOp (.reg .L) (.reg .B) s

/-- `MOV L,C` (R141). -/
def execMov_L_C (s : State) : Result := movOp (.reg .L) (.reg .C) s

/-- `MOV L,D` (R141). -/
def execMov_L_D (s : State) : Result := movOp (.reg .L) (.reg .D) s

/-- `MOV L,E` (R141). -/
def execMov_L_E (s : State) : Result := movOp (.reg .L) (.reg .E) s

/-- `MOV L,H` (R141). -/
def execMov_L_H (s : State) : Result := movOp (.reg .L) (.reg .H) s

/-- `MOV L,L` (R141). -/
def execMov_L_L (s : State) : Result := movOp (.reg .L) (.reg .L) s

/-- `MOV L,M` (R142). -/
def execMov_L_M (s : State) : Result := movOp (.reg .L) .M s

/-- `MOV L,A` (R141). -/
def execMov_L_A (s : State) : Result := movOp (.reg .L) (.reg .A) s

/-- `MOV M,B` (R143). -/
def execMov_M_B (s : State) : Result := movOp .M (.reg .B) s

/-- `MOV M,C` (R143). -/
def execMov_M_C (s : State) : Result := movOp .M (.reg .C) s

/-- `MOV M,D` (R143). -/
def execMov_M_D (s : State) : Result := movOp .M (.reg .D) s

/-- `MOV M,E` (R143). -/
def execMov_M_E (s : State) : Result := movOp .M (.reg .E) s

/-- `MOV M,H` (R143). -/
def execMov_M_H (s : State) : Result := movOp .M (.reg .H) s

/-- `MOV M,L` (R143). -/
def execMov_M_L (s : State) : Result := movOp .M (.reg .L) s

/-- `MOV M,A` (R143). -/
def execMov_M_A (s : State) : Result := movOp .M (.reg .A) s

/-- `MOV A,B` (R141). -/
def execMov_A_B (s : State) : Result := movOp (.reg .A) (.reg .B) s

/-- `MOV A,C` (R141). -/
def execMov_A_C (s : State) : Result := movOp (.reg .A) (.reg .C) s

/-- `MOV A,D` (R141). -/
def execMov_A_D (s : State) : Result := movOp (.reg .A) (.reg .D) s

/-- `MOV A,E` (R141). -/
def execMov_A_E (s : State) : Result := movOp (.reg .A) (.reg .E) s

/-- `MOV A,H` (R141). -/
def execMov_A_H (s : State) : Result := movOp (.reg .A) (.reg .H) s

/-- `MOV A,L` (R141). -/
def execMov_A_L (s : State) : Result := movOp (.reg .A) (.reg .L) s

/-- `MOV A,M` (R142). -/
def execMov_A_M (s : State) : Result := movOp (.reg .A) .M s

/-- `MOV A,A` (R141). -/
def execMov_A_A (s : State) : Result := movOp (.reg .A) (.reg .A) s

/-- `XCHG` (R153). -/
def execXchg (s : State) : Result := xchgOp s

end Sys2Proof.Machine
end

