-- ==== Sys2Proof/Machine/Step.lean ====
section
/-! DEFINITION. Machine/Step.lean: one call of `step()` (30_encoding.md R80), and a word placed where the next step fetches. -/

namespace Sys2Proof.Machine

/-- `step()`: nothing when Halted; else fetch the instruction at `pc` and run it (R80). -/
def step (s : State) : Host.Outcome State Fault Refusal :=
  if s.halted then .next s else exec s.fetchInstr.1 s.fetchInstr.2

/-- The word's bytes at `pc` of the active bank, zero bytes above them up to the longest instruction, and the engine Running,
so that the very next step runs it (log entry 6). -/
def State.withFetchWord (s : State) (nbits w : Nat) : State :=
  (((s.writeByte s.pc (tableByte nbits w 0)).writeByte (s.pc + 1) (tableByte nbits w 1)).writeByte (s.pc + 2)
    (tableByte nbits w 2)).setHalted false

end Sys2Proof.Machine
end

