-- ==== Sys2Proof/Machine/HostOps.lean ====
section
/-! DEFINITION. Machine/HostOps.lean: the host operations of 60_exceptions.md R316, which act between steps (R315), and runs
(R326, R327). -/

namespace Sys2Proof.Machine

/-! ## Reset and host memory operations -/

/-- `reset()`: every piece of state to its reset value, the slots unchanged (R330, D11). The observation record and the draw
position are not state of the CORE and stay (log entry 3). -/
def State.hostReset (s : State) : State :=
  { State.reset with
      readSlot := s.readSlot, writeSlot := s.writeSlot, inputCount := s.inputCount, events := s.events }

/-- The bank index `n` names, if it is one (R58, R59). -/
def bankIndex (n : Int) : Option (Fin 8) :=
  if 0 ≤ n ∧ n < 8 then some (Fin.ofNat 8 n.toNat) else none

/-- `switchBank(n)`: a no-op for an index that names no bank (R58). -/
def State.switchBank (s : State) (n : Int) : State :=
  match bankIndex n with
  | some b => s.setBank b
  | none => s

/-- `loadBytes(buffer, start)`: bytes that would land past 0xFFFF are dropped (R60). -/
def State.loadBytes (s : State) (start : Nat) : List Byte → State
  | [] => s
  | v :: rest =>
    if start < Config.bankSize then (s.writeByte (BitVec.ofNat 16 start) v).loadBytes (start + 1) rest else s

/-! ## The host operations as data -/

/-- What the host puts in a slot. A callback is described by the one thing about it that the spec constrains: whether it
calls back into the engine (R36, R323; log entry 1). -/
inductive SlotChoice where
  /-- Nothing: the slot is empty. -/
  | empty
  /-- A callback that calls no engine operation. -/
  | callback
  /-- A callback that calls an engine operation, which is not admitted (R323). -/
  | reentrant
deriving DecidableEq, Repr

/-- The host operations (R316). Integers are the host's, truncated to the register's width where a register takes them (R41,
R53). -/
inductive HostOp where
  | step
  | reset
  | getReg (r : Reg)
  | setReg (r : Reg) (v : Int)
  | getPair (p : Pair)
  | setPair (p : Pair) (v : Int)
  | getSp
  | setSp (v : Int)
  | getPc
  | setPc (v : Int)
  | readFlags
  | readHalted
  | readInterruptEnabled
  | readBankIndex
  | readByte (addr : Int)
  | writeByte (addr v : Int)
  | readByteIn (bank addr : Int)
  | writeByteIn (bank addr v : Int)
  | switchBank (n : Int)
  | loadBytes (buffer : List Byte) (start : Word)
  /-- Load from a source: the source's bytes, or none when it is unavailable (R328; log entry 10). -/
  | loadSource (source : Option (List Byte)) (start : Word)
  | setReadSlot (choice : SlotChoice)
  | setWriteSlot (choice : SlotChoice)
  | snapshot
deriving DecidableEq, Repr

/-- The values an introspection snapshot shows (R325); their text is not modelled (D19; log entry 9). -/
structure Snapshot where
  a : Byte
  b : Byte
  c : Byte
  d : Byte
  e : Byte
  h : Byte
  l : Byte
  sp : Word
  pc : Word
  flags : Flags
deriving DecidableEq, Repr

/-- What an operation returns to the host (R316). -/
inductive HostReply where
  | nothing
  | byte (v : Byte)
  | word (v : Word)
  | flags (f : Flags)
  | bool (b : Bool)
  | bankIndex (n : Fin 8)
  | snapshot (v : Snapshot)
deriving DecidableEq, Repr

/-- The snapshot of a state (R325). -/
def State.snapshot (s : State) : Snapshot :=
  { a := s.a, b := s.b, c := s.c, d := s.d, e := s.e, h := s.h, l := s.l, sp := s.sp, pc := s.pc, flags := s.flags }

/-- What a host operation answers: a reply and the state after it, or a refusal. -/
abbrev HostResult := Host.Outcome (HostReply × State) Fault Refusal

/-- A step asked for by the host (R316). -/
def hostStep (s : State) : HostResult :=
  match step s with
  | .next t => .next (.nothing, t)
  | .fault r => .fault r
  | .refused r => .refused r

/-- Whether a slot choice is admitted, and whether the slot then holds a callback (R322, R323). -/
def slotPresent : SlotChoice → Option Bool
  | .empty => some false
  | .callback => some true
  | .reentrant => none

/-- `readByte(b, addr)`: refused for a bank that does not exist, else regardless of the active bank (R59, D15). -/
def hostReadByteIn (bank addr : Int) (s : State) : HostResult :=
  match bankIndex bank with
  | some b => .next (.byte (s.readBank b (BitVec.ofInt 16 addr)), s)
  | none => .refused .bankOutOfRange

/-- `writeByte(b, addr, v)`: refused for a bank that does not exist, else regardless of the active bank (R59, D15). -/
def hostWriteByteIn (bank addr v : Int) (s : State) : HostResult :=
  match bankIndex bank with
  | some b => .next (.nothing, s.writeBank b (BitVec.ofInt 16 addr) (BitVec.ofInt 8 v))
  | none => .refused .bankOutOfRange

/-- Set the read slot (R322). -/
def hostSetReadSlot (choice : SlotChoice) (s : State) : HostResult :=
  match slotPresent choice with
  | some present => .next (.nothing, { s with readSlot := present })
  | none => .refused .reentrantCallback

/-- Set the write slot (R322). -/
def hostSetWriteSlot (choice : SlotChoice) (s : State) : HostResult :=
  match slotPresent choice with
  | some present => .next (.nothing, { s with writeSlot := present })
  | none => .refused .reentrantCallback

/-- A load from a source: as `loadBytes` when it is available, else a failure that changes nothing (R328). -/
def hostLoadSource (source : Option (List Byte)) (start : Word) (s : State) : HostResult :=
  match source with
  | some buffer => .next (.bool true, s.loadBytes start.toNat buffer)
  | none => .next (.bool false, s)

/-- One host operation, between steps (R316). -/
def hostApply (op : HostOp) (s : State) : HostResult :=
  match op with
  | .step => hostStep s
  | .reset => .next (.nothing, s.hostReset)
  | .getReg r => .next (.byte (s.getReg r), s)
  | .setReg r v => .next (.nothing, s.setReg r (BitVec.ofInt 8 v))
  | .getPair p => .next (.word (s.getPair p), s)
  | .setPair p v => .next (.nothing, s.setPair p (BitVec.ofInt 16 v))
  | .getSp => .next (.word s.sp, s)
  | .setSp v => .next (.nothing, s.setSp (BitVec.ofInt 16 v))
  | .getPc => .next (.word s.pc, s)
  | .setPc v => .next (.nothing, s.setPc (BitVec.ofInt 16 v))
  | .readFlags => .next (.flags s.flags, s)
  | .readHalted => .next (.bool s.halted, s)
  | .readInterruptEnabled => .next (.bool s.interruptEnabled, s)
  | .readBankIndex => .next (.bankIndex s.bank, s)
  | .readByte addr => .next (.byte (s.readByte (BitVec.ofInt 16 addr)), s)
  | .writeByte addr v => .next (.nothing, s.writeByte (BitVec.ofInt 16 addr) (BitVec.ofInt 8 v))
  | .readByteIn bank addr => hostReadByteIn bank addr s
  | .writeByteIn bank addr v => hostWriteByteIn bank addr v s
  | .switchBank n => .next (.nothing, s.switchBank n)
  | .loadBytes buffer start => .next (.nothing, s.loadBytes start.toNat buffer)
  | .loadSource source start => hostLoadSource source start s
  | .setReadSlot choice => hostSetReadSlot choice s
  | .setWriteSlot choice => hostSetWriteSlot choice s
  | .snapshot => .next (.snapshot s.snapshot, s)

/-! ## Runs -/

/-- How a run under a fuel ends (R327, D17). -/
inductive RunResult where
  /-- The engine is Halted: a finished run and its final state. -/
  | finished (s : State)
  /-- Out of fuel and not halted: not a finished run. -/
  | unfinished (s : State)
  /-- A step stopped. No step does (R300). -/
  | stopped
deriving DecidableEq, Repr

/-- A run of at most `fuel` steps (R327). -/
def runFuel : Nat → State → RunResult
  | fuel, s =>
    if s.halted then .finished s
    else
      match fuel with
      | 0 => .unfinished s
      | n + 1 =>
        match step s with
        | .next t => runFuel n t
        | .fault _ => .stopped
        | .refused _ => .stopped

end Sys2Proof.Machine
end

