-- ==== Sys2Proof/WellFormed.lean ====
section
/-! DEFINITION. WellFormed.lean: when a byte list is one instruction, and that an instruction's encoding is. -/

namespace Sys2Proof

/-- A byte list is one whole instruction: it is not empty, and it has exactly as many bytes as its first byte says (R85).
These are the only two ways a byte list can be ill-formed (R82, R97). -/
def wellFormedBytes : List Byte → Bool
  | [] => false
  | op :: rest => rest.length + 1 == opcodeLength op

/-- An instruction is well-formed when its bytes are one whole instruction. The operands are typed by their widths and every
opcode value is an instruction (R97), so no term of `Instr` is ill-formed (log entry 7). -/
def Instr.wf (i : Instr) : Bool := wellFormedBytes (encode i)

end Sys2Proof
end

