-- ==== Sys2Proof/Safety.lean ====
section
/-! DEFINITION. Safety.lean: the terms the statements use: the parts of the state, frames, effects and safe runs. -/

namespace Sys2Proof

open Machine

/-! ## Frames -/

/-- The parts of the state other than memory. -/
inductive Part where
  | reg (r : Reg)
  | sp
  | pc
  | flagS
  | flagZ
  | flagAC
  | flagP
  | flagCY
  | halted
  | interruptEnabled
  | bank
  | readSlot
  | writeSlot
  | inputCount
  | events
deriving DecidableEq, Repr

/-- `t` holds the same in this part as `s`. -/
def Part.Same (p : Part) (s t : State) : Prop :=
  match p with
  | .reg r => t.getReg r = s.getReg r
  | .sp => t.sp = s.sp
  | .pc => t.pc = s.pc
  | .flagS => t.flags.s = s.flags.s
  | .flagZ => t.flags.z = s.flags.z
  | .flagAC => t.flags.ac = s.flags.ac
  | .flagP => t.flags.p = s.flags.p
  | .flagCY => t.flags.cy = s.flags.cy
  | .halted => t.halted = s.halted
  | .interruptEnabled => t.interruptEnabled = s.interruptEnabled
  | .bank => t.bank = s.bank
  | .readSlot => t.readSlot = s.readSlot
  | .writeSlot => t.writeSlot = s.writeSlot
  | .inputCount => t.inputCount = s.inputCount
  | .events => t.events = s.events

/-- Every byte of every bank reads as before, but for the bytes of the active bank at the `stored` addresses. -/
def MemorySameBut (stored : List Word) (s t : State) : Prop :=
  ∀ (bank : Fin 8) (addr : Word), ¬(bank = s.bank ∧ addr ∈ stored) → t.readBank bank addr = s.readBank bank addr

/-- The frame of a change from `s` to `t`: nothing but the `changed` parts and the active bank's bytes at the `stored`
addresses may differ. -/
def Frame (changed : List Part) (stored : List Word) (s t : State) : Prop :=
  (∀ p, p ∉ changed → p.Same s t) ∧ MemorySameBut stored s t

/-- The five flags. -/
def allFlags : List Part := [.flagS, .flagZ, .flagAC, .flagP, .flagCY]

/-- The two registers of a pair. -/
def pairParts (p : Pair) : List Part := [.reg (pairHigh p), .reg (pairLow p)]

/-- What a write of an `rp` operand changes (R90). -/
def rpParts : RegPair → List Part
  | .pair p => pairParts p
  | .SP => [.sp]

/-- The registers a write of a location changes (R89). -/
def locParts : Loc → List Part
  | .reg r => [.reg r]
  | .M => []

/-- The addresses a write of a location stores to: the address in HL for M, none for a register (R89). -/
def locStored (s : State) : Loc → List Word
  | .reg _ => []
  | .M => [s.getPair .HL]

/-! ## Effects -/

/-- The result is a next state, and `P` holds of it. -/
def Answers (r : Result) (P : State → Prop) : Prop := ∃ t, r = .next t ∧ P t

/-- After the change from `s` to `t` the location holds `v`, M at the address HL held in `s` (R89). -/
def LocHolds (k : Loc) (v : Byte) (s t : State) : Prop :=
  match k with
  | .reg r => t.getReg r = v
  | .M => t.readByte (s.getPair .HL) = v

/-- S, Z and P of `t` are those of the result `r` (R27, R28, R30, R112). -/
def ResultFlags (r : Byte) (t : State) : Prop :=
  t.flags.s = r.msb ∧ (t.flags.z = true ↔ r = 0) ∧ t.flags.p = parity r

/-- The effect of `x[A] <- add(x[A], v, withCarry)` in exact arithmetic (R110): the sum uses the carry before, the auxiliary
carry uses the carry after (R116). -/
def AddEffect (v : Byte) (withCarry : Bool) (s t : State) : Prop :=
  let sum := s.a.toNat + v.toNat + (if withCarry && s.flags.cy then 1 else 0)
  t.a.toNat = sum % 256 ∧
  (t.flags.cy = true ↔ 255 < sum) ∧
  (t.flags.ac = true ↔ 15 < s.a.toNat % 16 + v.toNat % 16 + (if withCarry && t.flags.cy then 1 else 0)) ∧
  ResultFlags t.a t ∧
  Frame (.reg .A :: allFlags) [] s t

/-- The effect of `x[A] <- sub(x[A], v, withBorrow)` in exact arithmetic (R111): the difference uses the borrow before, the
nibble borrow uses the borrow after (R116). -/
def SubEffect (v : Byte) (withBorrow : Bool) (s t : State) : Prop :=
  let take := v.toNat + (if withBorrow && s.flags.cy then 1 else 0)
  (t.a.toNat : Int) = ((s.a.toNat : Int) - take) % 256 ∧
  (t.flags.cy = true ↔ s.a.toNat < take) ∧
  (t.flags.ac = true ↔ s.a.toNat % 16 < v.toNat % 16 + (if withBorrow && t.flags.cy then 1 else 0)) ∧
  ResultFlags t.a t ∧
  Frame (.reg .A :: allFlags) [] s t

/-- The effect of a logical operation with result `r` (R113). -/
def LogicEffect (r : Byte) (s t : State) : Prop :=
  t.a = r ∧ t.flags.cy = false ∧ t.flags.ac = false ∧ ResultFlags r t ∧ Frame (.reg .A :: allFlags) [] s t

/-- The effect of a compare with `v`: only the flags, by the order of the unsigned numbers (R203, R119). -/
def CompareEffect (v : Byte) (s t : State) : Prop :=
  (t.flags.z = true ↔ s.a = v) ∧
  (t.flags.cy = true ↔ s.a.toNat < v.toNat) ∧
  (t.flags.ac = true ↔ s.a.toNat % 16 < v.toNat % 16) ∧
  t.flags.s = (s.a - v).msb ∧
  t.flags.p = parity (s.a - v) ∧
  Frame allFlags [] s t

/-- The effect of a push of `v` on the stack: the high byte just below the stack pointer, the low byte below it (R270). -/
def PushEffect (v : Word) (s t : State) : Prop :=
  t.sp = s.sp - 2 ∧ t.readByte (s.sp - 1) = hiByte v ∧ t.readByte (s.sp - 2) = loByte v ∧
  MemorySameBut [s.sp - 1, s.sp - 2] s t

/-- The binary-coded decimal byte of a number below 100. -/
def bcd (n : Nat) : Byte := BitVec.ofNat 8 (n / 10 * 16 + n % 10)

/-! ## Steps and runs -/

/-- Two states that differ, if at all, in the bytes of banks that are not active. -/
def SameActiveBank (s u : State) : Prop :=
  (∃ m, u = { s with mem := m }) ∧ ∀ addr, u.readByte addr = s.readByte addr

/-- A run of `n` steps from `s` that stops nowhere: each step answers a next state. -/
def SafeFor : Nat → State → Prop
  | 0, _ => True
  | n + 1, s => ∃ t, step s = .next t ∧ SafeFor n t

/-- The instructions that may write `pc` themselves (44_branch.md). -/
def IsBranch (i : Instr) : Prop :=
  (∃ a, i = .jmp a ∨ i = .call a) ∨ (∃ c a, i = jccInstr c a ∨ i = cccInstr c a) ∨ (∃ c, i = rccInstr c) ∨
  (∃ n, i = rstInstr n) ∨ i = .ret ∨ i = .pchl

/-- The instructions that may change a flag, by the summary of flag effects (R32). -/
def WritesFlags (i : Instr) : Prop :=
  (∃ op k, i = aluInstr op k) ∨ (∃ op v, i = aluImmInstr op v) ∨ (∃ k, i = inrInstr k ∨ i = dcrInstr k) ∨
  (∃ rp, i = dadInstr rp) ∨ i = .daa ∨ i = .rlc ∨ i = .rrc ∨ i = .ral ∨ i = .rar ∨ i = .stc ∨ i = .cmc ∨ i = .pop_PSW

end Sys2Proof
end

