-- ==== Sys2Proof/Certificates/Slice0/Obligations.lean ====
section
/-! DEFINITION. Certificates/Slice0/Obligations.lean: the statements about the machine, after the rules of spec/. The encoding
clause of an instruction's statement rests on the opcode map and field codes that the spec takes from general knowledge of
the 8085 (GK1, GK2, D21). A statement about an instruction starts where its operand bytes are fetched: `s.pc` is the address
of the next sequential instruction (R81; log entry 4), and StepRunsDecodedInstruction joins it to a step. -/

open Sys2Proof Sys2Proof.Machine

/-! ## Encoding -/

/-- Every instruction's bytes, whatever follows them, decode to it: no operand bit is dropped (R84 to R94; the opcode map is
D21, log entries 8 and 11). -/
def Obligations.DecodeOfEncodeIsInstruction : Prop :=
  ∀ (i : Instr) (rest : List Byte), i.wf = true ∧ decode (encode i ++ rest) = .ok (i, rest)

/-- Each byte string has one meaning: what decodes is the encoding of the instruction it decodes to (the opcode map is D21, log
entries 8 and 11). -/
def Obligations.EncodeOfDecodeIsBytes : Prop :=
  ∀ (bytes : List Byte) (i : Instr) (rest : List Byte), decode bytes = .ok (i, rest) → encode i ++ rest = bytes

/-- Decoding fails only on a list that ends too early, and says which way (R82, R97); the lengths are 1, 2 and 3 for 212, 18
and 26 opcodes (R85, GK3; of the conditional jumps and calls, D5). -/
def Obligations.DecodeFailsOnlyOnShortLists : Prop :=
  (∀ bytes : List Byte,
    (∃ i rest, decode bytes = .ok (i, rest)) ∨
    (bytes = [] ∧ decode bytes = .error .noBytes) ∨
    (∃ op tail, bytes = op :: tail ∧ bytes.length < opcodeLength op ∧ decode bytes = .error (.truncated op))) ∧
  (∀ op x y rest, ∃ i tail, decode (op :: x :: y :: rest) = .ok (i, tail)) ∧
  ((List.range 256).countP (fun n => opcodeLength (BitVec.ofNat 8 n) == 1) = 212 ∧
   (List.range 256).countP (fun n => opcodeLength (BitVec.ofNat 8 n) == 2) = 18 ∧
   (List.range 256).countP (fun n => opcodeLength (BitVec.ofNat 8 n) == 3) = 26)

/-- The four opcode bytes the source gives (3E, 06, 80, 76), and a word of each format, decode to the instructions they stand
for. The other opcodes are the map the spec takes from general knowledge (GK1, D21, log entry 11), DD among the undocumented
values (GK4); that the words 21 34 12 and C2 00 20 hold their operand low byte first is the spec's decision D1 (GK6, log
entry 8). -/
def Obligations.SampleWordsDecode : Prop :=
  decode [0x3E, 0x05, 0x06] = .ok (.mvi_A 0x05, [0x06]) ∧
  decode [0x06, 0x03] = .ok (.mvi_B 0x03, []) ∧
  decode [0x80] = .ok (.add_B, []) ∧
  decode [0x76] = .ok (.hlt, []) ∧
  decode [0x21, 0x34, 0x12] = .ok (.lxi_H 0x1234, []) ∧
  decode [0xC2, 0x00, 0x20] = .ok (.jnz 0x2000, []) ∧
  decode [0xD3, 0xFE] = .ok (.outPort 0xFE, []) ∧
  decode [0xDD, 0x3E, 0x07] = .ok (.nop_DD, [0x3E, 0x07])

/-! ## The step -/

/-- R80, with `pc` past the bytes fetched (R81): a halted engine's step changes nothing; a running engine's step runs the
instruction whose bytes stand at `pc` in the active bank. -/
def Obligations.StepRunsDecodedInstruction : Prop :=
  ∀ s : State,
    (s.halted = true → step s = .next s) ∧
    (s.halted = false → ∀ i rest, decode [s.readByte s.pc, s.readByte (s.pc + 1), s.readByte (s.pc + 2)] = .ok (i, rest) →
      step s = exec i (s.setPc (s.pc + BitVec.ofNat 16 (encode i).length)))

/-- R82: dispatch is total over the opcode values; none stops the engine, and only 0x76 halts it. -/
def Obligations.DispatchIsTotal : Prop :=
  ∀ (op x y : Byte) (s : State),
    Answers (exec (decodeBytes op x y) s) fun t => (op = 0x76 → t.halted = true) ∧ (op ≠ 0x76 → t.halted = s.halted)

/-- R300 for whole runs: no run of any length, from any state, stops with a fault or a refusal. -/
def Obligations.RunsNeverStop : Prop :=
  (∀ (i : Instr) (s : State), Answers (exec i s) fun _ => True) ∧ ∀ (n : Nat) (s : State), SafeFor n s

/-- R338: after HLT every step is a no-op, however many there are, until `reset()`, which zeroes memory and registers. That
a halted engine is a finished run is the spec's decision D17 (R327, log entry 8). -/
def Obligations.HaltIsTerminal : Prop :=
  ∀ (s : State) (n : Nat), Answers (exec .hlt s) fun t =>
    t.halted = true ∧ core.run n t = .next t ∧ runFuel n t = .finished t ∧
    ∃ u, hostApply .reset t = .next (.nothing, u) ∧ u.halted = false ∧ (∀ r, u.getReg r = 0) ∧
      ∀ bank addr, u.readBank bank addr = 0x00

/-- The canonical form of memory (the model's own, log entry 5) is an invariant of the step. -/
def Obligations.StepKeepsMemoryCanonical : Prop :=
  ∀ s t : State, s.wf = true → step s = .next t → t.wf = true

/-- The state after construction (R330, R331, with D10 for the flags, interruptEnabled and bank and D11 for the empty slots; log
entry 8). That its memory is in canonical form is about the model's own form (log entry 5), and the empty record and the draw
position 0 are the model's choice (log entries 3 and 2). -/
def Obligations.ConstructionState : Prop :=
  (∀ r, State.reset.getReg r = 0) ∧ State.reset.sp = 0xFFFF ∧ State.reset.pc = 0x0000 ∧
  State.reset.flags = { s := false, z := false, ac := false, p := false, cy := false } ∧
  State.reset.halted = false ∧ State.reset.interruptEnabled = false ∧ State.reset.bank = 0 ∧
  (∀ bank addr, State.reset.readBank bank addr = 0x00) ∧
  State.reset.readSlot = false ∧ State.reset.writeSlot = false ∧ State.reset.wf = true ∧
  State.reset.events = [] ∧ State.reset.inputCount = 0

/-- `reset()` from any state, halted or not (R330, D10, D11): the construction state, with the slots as they were. That it
leaves the observation record is the model's choice (log entry 3). -/
def Obligations.HostResetRestoresConstructionState : Prop :=
  ∀ s : State, ∃ t, hostApply .reset s = .next (.nothing, t) ∧
    (∀ r, t.getReg r = 0) ∧ t.sp = 0xFFFF ∧ t.pc = 0x0000 ∧
    t.flags = { s := false, z := false, ac := false, p := false, cy := false } ∧
    t.halted = false ∧ t.interruptEnabled = false ∧ t.bank = 0 ∧
    (∀ bank addr, t.readBank bank addr = 0x00) ∧
    t.readSlot = s.readSlot ∧ t.writeSlot = s.writeSlot ∧ t.events = s.events ∧ t.inputCount = s.inputCount

/-! ## Whole-machine rules -/

/-- R54: every access of a step goes to the active bank. A step changes no byte of a bank that is not active when it starts;
and two states that differ only in such banks take the same step, up to those banks. Over the canonical form of memory (log
entry 5). -/
def Obligations.StepUsesOnlyActiveBank : Prop :=
  (∀ s t : State, s.wf = true → step s = .next t →
    ∀ bank addr, bank ≠ s.bank → t.readBank bank addr = s.readBank bank addr) ∧
  (∀ s u t : State, s.wf = true → u.wf = true → SameActiveBank s u → step s = .next t →
    ∃ t', step u = .next t' ∧ (∃ m, t' = { t with mem := m }) ∧
      ∀ addr, t'.readBank s.bank addr = t.readBank s.bank addr)

/-- The summary of flag effects (R32, an inference of the spec): an instruction outside its groups changes no flag. -/
def Obligations.OnlyFlagGroupsChangeFlags : Prop :=
  ∀ (i : Instr) (s t : State), exec i s = .next t → t.flags ≠ s.flags → WritesFlags i

/-- R35: HLT sets `halted` and nothing else does; `reset()` clears it and nothing else does; a step while it is set changes
nothing. -/
def Obligations.HaltedIsSetByHltAndClearedByReset : Prop :=
  (∀ s, Answers (exec .hlt s) fun t => t.halted = true) ∧
  (∀ (i : Instr) (s t : State), exec i s = .next t → t.halted ≠ s.halted → i = .hlt ∧ t.halted = true) ∧
  (∀ s, ∃ t, hostApply .reset s = .next (.nothing, t) ∧ t.halted = false) ∧
  (∀ (op : HostOp) (s t : State) (r : HostReply), hostApply op s = .next (r, t) →
    (s.halted = true → t.halted = false → op = .reset) ∧
    (s.halted = false → t.halted = true → op = .step ∧ s.readByte s.pc = 0x76) ∧
    (s.halted = true → op = .step → t = s))

/-- R37: EI and DI alone write `interruptEnabled`, and nothing reads it: a step from a state that differs only in it answers
the same state, up to it. -/
def Obligations.InterruptEnabledIsWrittenByEiDiAndReadByNothing : Prop :=
  (∀ s, Answers (exec .ei s) fun t => t.interruptEnabled = true) ∧
  (∀ s, Answers (exec .di s) fun t => t.interruptEnabled = false) ∧
  (∀ (i : Instr) (s t : State), exec i s = .next t → t.interruptEnabled ≠ s.interruptEnabled → i = .ei ∨ i = .di) ∧
  (∀ (s t : State) (b : Bool), step s = .next t → ∃ b', step (s.setInterruptEnabled b) = .next (t.setInterruptEnabled b'))

/-- R38 with R58 and R330: the bank index changes only by OUT to port 254, `switchBank` and `reset()`. -/
def Obligations.BankIsWrittenByOut254AndHost : Prop :=
  (∀ (i : Instr) (s t : State), exec i s = .next t → t.bank ≠ s.bank → i = .outPort 254) ∧
  (∀ (op : HostOp) (s t : State) (r : HostReply), hostApply op s = .next (r, t) → t.bank ≠ s.bank →
    op = .step ∨ op = .reset ∨ ∃ n, op = .switchBank n)

/-- R36 and R326 (the events are D13): no instruction writes a slot; only IN and OUT append to the observation record, one event at most, and
nothing is taken out of it. -/
def Obligations.GatewayStateIsWrittenByInOutOnly : Prop :=
  ∀ (i : Instr) (s t : State), exec i s = .next t →
    t.readSlot = s.readSlot ∧ t.writeSlot = s.writeSlot ∧
    (t.events = s.events ∨ ∃ ev, t.events = s.events ++ [ev] ∧ ∃ p, i = .inPort p ∨ i = .outPort p)

/-- R25: an instruction outside the branch family leaves `pc` at the address past its last byte, where a meaning
starts (log entry 4). -/
def Obligations.OnlyBranchesWritePc : Prop :=
  ∀ (i : Instr) (s t : State), exec i s = .next t → t.pc ≠ s.pc → IsBranch i

/-! ## Flags, memory and host operations -/

/-- R114: parity is true exactly when the number of 1 bits is even. -/
def Obligations.ParityIsEvenNumberOfOnes : Prop :=
  (∀ v : Byte, parity v = true ↔ Even (Finset.univ.filter (fun i : Fin 8 => v.getLsbD i.val = true)).card) ∧
  parity 0x00 = true ∧ parity 0x01 = false ∧ parity 0xFF = true

/-- R34: unpacking reads five bits and ignores the others; it undoes packing; packing after it gives the byte with bits 5 and
3 cleared and bit 1 set. That bits 5 and 3 are packed as 0 and ignored is the spec's decision D4 (R33, GK9, log entry 8). -/
def Obligations.PackedFlagsRoundTrip : Prop :=
  (∀ b : Byte, Flags.unpack b =
    { s := b.getLsbD 7, z := b.getLsbD 6, ac := b.getLsbD 4, p := b.getLsbD 2, cy := b.getLsbD 0 }) ∧
  (∀ f : Flags, Flags.unpack f.pack = f) ∧
  (∀ b : Byte, (Flags.unpack b).pack = (b &&& 0xD5) ||| 0x02)

/-- R52 and R53: a read of memory gives the active bank's byte at the address modulo 65536 and changes nothing; a write puts
the value modulo 256 there and changes nothing else. Over the canonical form of memory (log entry 5). -/
def Obligations.MemoryReadWriteActiveBank : Prop :=
  ∀ (s : State) (addr v : Int) (x : Word), s.wf = true → (x.toNat : Int) = addr % 65536 →
    hostApply (.readByte addr) s = .next (.byte (s.readBank s.bank x), s) ∧
    ∃ t, hostApply (.writeByte addr v) s = .next (.nothing, t) ∧ ((t.readBank s.bank x).toNat : Int) = v % 256 ∧
      Frame [] [x] s t

/-- R73: banks are isolated, over the canonical form of memory (log entry 5). -/
def Obligations.BanksAreIsolated : Prop :=
  ∀ (s : State) (n m : Fin 8) (a : Word) (v : Byte), s.wf = true → m ≠ n →
    (∀ x, (s.writeBank n a v).readBank m x = s.readBank m x) ∧
    ((s.writeBank n a v).setBank m).readByte a = s.readBank m a ∧
    (((s.writeBank n a v).setBank m).setBank n).readByte a = v

/-- R58: `switchBank(n)` selects bank n when it is one of the eight, else changes nothing. -/
def Obligations.SwitchBankIgnoresOutOfRange : Prop :=
  ∀ (s : State) (n : Int), ∃ t, hostApply (.switchBank n) s = .next (.nothing, t) ∧ Frame [.bank] [] s t ∧
    (0 ≤ n → n < 8 → (t.bank.val : Int) = n) ∧ (n < 0 ∨ 8 ≤ n → t = s)

/-- Access to a named bank (R59): regardless of the active bank; refused outside 0 to 7 (D15). Over the canonical form of
memory (log entry 5). -/
def Obligations.NamedBankAccess : Prop :=
  (∀ (s : State) (n : Fin 8) (a : Word),
    hostApply (.readByteIn n.val a.toNat) s = .next (.byte (s.readBank n a), s)) ∧
  (∀ (s : State) (n : Fin 8) (a : Word) (v : Byte), s.wf = true →
    ∃ t, hostApply (.writeByteIn n.val a.toNat v.toNat) s = .next (.nothing, t) ∧ t.readBank n a = v ∧
      (∀ m x, ¬(m = n ∧ x = a) → t.readBank m x = s.readBank m x) ∧ ∀ p, Part.Same p s t) ∧
  (∀ (s : State) (n a v : Int), n < 0 ∨ 8 ≤ n →
    hostApply (.readByteIn n a) s = .refused .bankOutOfRange ∧
    hostApply (.writeByteIn n a v) s = .refused .bankOutOfRange)

/-- R60: `loadBytes` copies what fits below the end of the active bank, drops the rest, and changes nothing else. Over the
canonical form of memory (log entry 5). -/
def Obligations.LoadBytesCopiesAndTruncates : Prop :=
  ∀ (s : State) (buffer : List Byte) (start : Word), s.wf = true →
    ∃ t, hostApply (.loadBytes buffer start) s = .next (.nothing, t) ∧
      (∀ (i : Nat) (h : i < buffer.length), start.toNat + i ≤ 0xFFFF →
        t.readByte (BitVec.ofNat 16 (start.toNat + i)) = buffer[i]) ∧
      (∀ (bank : Fin 8) (x : Word), ¬(bank = s.bank ∧ start.toNat ≤ x.toNat ∧ x.toNat < start.toNat + buffer.length) →
        t.readBank bank x = s.readBank bank x) ∧
      ∀ p, Part.Same p s t

/-- R41: the host gets and sets each register, SP, PC and each pair (high byte first, R22, R23). A set stores the value
truncated to the width, and changes nothing else. -/
def Obligations.HostSetTruncatesToWidth : Prop :=
  (∀ (s : State) (r : Reg) (v : Int),
    hostApply (.getReg r) s = .next (.byte (s.getReg r), s) ∧
    ∃ t, hostApply (.setReg r v) s = .next (.nothing, t) ∧ ((t.getReg r).toNat : Int) = v % 256 ∧ Frame [.reg r] [] s t) ∧
  (∀ (s : State) (p : Pair) (v : Int),
    hostApply (.getPair p) s = .next (.word (joinBytes (s.getReg (pairHigh p)) (s.getReg (pairLow p))), s) ∧
    ∃ t, hostApply (.setPair p v) s = .next (.nothing, t) ∧
      ((t.getReg (pairHigh p)).toNat * 256 + (t.getReg (pairLow p)).toNat : Int) = v % 65536 ∧
      Frame (pairParts p) [] s t) ∧
  (∀ (s : State) (v : Int),
    hostApply .getSp s = .next (.word s.sp, s) ∧
    ∃ t, hostApply (.setSp v) s = .next (.nothing, t) ∧ (t.sp.toNat : Int) = v % 65536 ∧ Frame [.sp] [] s t) ∧
  (∀ (s : State) (v : Int),
    hostApply .getPc s = .next (.word s.pc, s) ∧
    ∃ t, hostApply (.setPc v) s = .next (.nothing, t) ∧ (t.pc.toNat : Int) = v % 65536 ∧ Frame [.pc] [] s t)

/-- The end of a run under a fuel (R327, D17): finished exactly when halted within the fuel, and then the same for every
larger fuel. -/
def Obligations.RunEndsWhenHalted : Prop :=
  ∀ (n : Nat) (s : State),
    (∃ t, runFuel n s = .finished t ∧ t.halted = true ∧ core.run n s = .next t ∧ ∀ m, n ≤ m → runFuel m s = .finished t) ∨
    (∃ t, runFuel n s = .unfinished t ∧ t.halted = false ∧ core.run n s = .next t)

/-- The round trip of the stack primitives (R271, D2), over the canonical form of memory (log entry 5). -/
def Obligations.PopUndoesPush : Prop :=
  ∀ (s : State) (v : Word), s.wf = true →
    (s.push16 v).pop16.1 = v ∧ (s.push16 v).pop16.2.sp = s.sp ∧ (s.push16 v).pop16.2.mem = (s.push16 v).mem

/-! ## Transfer -/

/-- MOV r1,r2 (R141): the 49 constructors mov_r1_r2 with r1 and r2 in A, B, C, D, E, H, L. -/
def Obligations.MovRegisterToRegister : Prop :=
  ∀ (d r : Reg) (s : State),
    encode (movInstr (.reg d) (.reg r)) = [0b01#2 ++ (Loc.reg d).code ++ (Loc.reg r).code] ∧
    Answers (exec (movInstr (.reg d) (.reg r)) s) fun t => t.getReg d = s.getReg r ∧ Frame [.reg d] [] s t

/-- MOV r,M (R142): mov_B_M, mov_C_M, mov_D_M, mov_E_M, mov_H_M, mov_L_M, mov_A_M. -/
def Obligations.MovMemoryToRegister : Prop :=
  ∀ (d : Reg) (s : State),
    encode (movInstr (.reg d) .M) = [0b01#2 ++ (Loc.reg d).code ++ 0b110#3] ∧
    Answers (exec (movInstr (.reg d) .M) s) fun t => t.getReg d = s.readByte (s.getPair .HL) ∧ Frame [.reg d] [] s t

/-- MOV M,r (R143): mov_M_B, mov_M_C, mov_M_D, mov_M_E, mov_M_H, mov_M_L, mov_M_A. -/
def Obligations.MovRegisterToMemory : Prop :=
  ∀ (r : Reg) (s : State), s.wf = true →
    encode (movInstr .M (.reg r)) = [0b01110#5 ++ (Loc.reg r).code] ∧
    Answers (exec (movInstr .M (.reg r)) s) fun t =>
      t.readByte (s.getPair .HL) = s.getReg r ∧ Frame [] [s.getPair .HL] s t

/-- MVI (R144, R145): mvi_B, mvi_C, mvi_D, mvi_E, mvi_H, mvi_L, mvi_M, mvi_A. -/
def Obligations.MviLoadsImmediate : Prop :=
  ∀ (d : Loc) (v : Byte) (s : State), s.wf = true →
    encode (mviInstr d v) = [0b00#2 ++ d.code ++ 0b110#3, v] ∧
    Answers (exec (mviInstr d v) s) fun t => LocHolds d v s t ∧ Frame (locParts d) (locStored s d) s t

/-- LXI (R146, with the operand order of D1): lxi_B, lxi_D, lxi_H, lxi_SP. -/
def Obligations.LxiLoadsPair : Prop :=
  ∀ (rp : RegPair) (v : Word) (s : State),
    encode (lxiInstr rp v) = [0b00#2 ++ rp.code ++ 0b0001#4, loByte v, hiByte v] ∧
    Answers (exec (lxiInstr rp v) s) fun t => t.readRp rp = v ∧ Frame (rpParts rp) [] s t

/-- LDA and LDAX (R147, R151, D1): lda, ldax_B, ldax_D. -/
def Obligations.LdaLdaxLoadAccumulator : Prop :=
  (∀ (addr : Word) (s : State),
    encode (.lda addr) = [0x3A, loByte addr, hiByte addr] ∧
    Answers (exec (.lda addr) s) fun t => t.a = s.readByte addr ∧ Frame [.reg .A] [] s t) ∧
  (∀ (rp : IndPair) (s : State),
    encode (ldaxInstr rp) = [0b00#2 ++ rp.code ++ 0b1010#4] ∧
    Answers (exec (ldaxInstr rp) s) fun t => t.a = s.readByte (s.getPair (indPair rp)) ∧ Frame [.reg .A] [] s t)

/-- STA and STAX (R148, R152, D1): sta, stax_B, stax_D. -/
def Obligations.StaStaxStoreAccumulator : Prop :=
  (∀ (addr : Word) (s : State), s.wf = true →
    encode (.sta addr) = [0x32, loByte addr, hiByte addr] ∧
    Answers (exec (.sta addr) s) fun t => t.readByte addr = s.a ∧ Frame [] [addr] s t) ∧
  (∀ (rp : IndPair) (s : State), s.wf = true →
    encode (staxInstr rp) = [0b00#2 ++ rp.code ++ 0b0010#4] ∧
    Answers (exec (staxInstr rp) s) fun t =>
      t.readByte (s.getPair (indPair rp)) = s.a ∧ Frame [] [s.getPair (indPair rp)] s t)

/-- LHLD and SHLD (R149, R150, D1), low byte at the address and high byte at the address after it, wrapping: lhld, shld. -/
def Obligations.LhldShldMoveHl : Prop :=
  (∀ (addr : Word) (s : State),
    encode (.lhld addr) = [0x2A, loByte addr, hiByte addr] ∧
    Answers (exec (.lhld addr) s) fun t =>
      t.l = s.readByte addr ∧ t.h = s.readByte (addr + 1) ∧ Frame [.reg .H, .reg .L] [] s t) ∧
  (∀ (addr : Word) (s : State), s.wf = true →
    encode (.shld addr) = [0x22, loByte addr, hiByte addr] ∧
    Answers (exec (.shld addr) s) fun t =>
      t.readByte addr = s.l ∧ t.readByte (addr + 1) = s.h ∧ Frame [] [addr, addr + 1] s t)

/-- XCHG (R153), and that doing it twice restores the state: xchg. -/
def Obligations.XchgSwapsHlAndDe : Prop :=
  encode .xchg = [0b11101011#8] ∧
  ∀ s : State, Answers (exec .xchg s) fun t =>
    t.h = s.d ∧ t.l = s.e ∧ t.d = s.h ∧ t.e = s.l ∧ Frame [.reg .H, .reg .L, .reg .D, .reg .E] [] s t ∧
    exec .xchg t = .next s

/-! ## Arithmetic -/

/-- ADD, ADC, ADI and ACI (R110, R116, R170, R171, R174, R175): add_x and adc_x for x in A, B, C, D, E, H, L, M; adi; aci. -/
def Obligations.AddInstructions : Prop :=
  (∀ (k : Loc) (s : State), encode (aluInstr .ADD k) = [0b10000#5 ++ k.code] ∧
    Answers (exec (aluInstr .ADD k) s) (AddEffect (s.readLoc k) false s)) ∧
  (∀ (k : Loc) (s : State), encode (aluInstr .ADC k) = [0b10001#5 ++ k.code] ∧
    Answers (exec (aluInstr .ADC k) s) (AddEffect (s.readLoc k) true s)) ∧
  (∀ (v : Byte) (s : State), encode (aluImmInstr .ADD v) = [0b11000110#8, v] ∧
    Answers (exec (aluImmInstr .ADD v) s) (AddEffect v false s)) ∧
  (∀ (v : Byte) (s : State), encode (aluImmInstr .ADC v) = [0b11001110#8, v] ∧
    Answers (exec (aluImmInstr .ADC v) s) (AddEffect v true s))

/-- SUB, SBB, SUI and SBI (R111 with the nibble borrow of D9, R116, R172, R173, R176, R177): sub_x and sbb_x for x in A, B,
C, D, E, H, L, M; sui; sbi. -/
def Obligations.SubtractInstructions : Prop :=
  (∀ (k : Loc) (s : State), encode (aluInstr .SUB k) = [0b10010#5 ++ k.code] ∧
    Answers (exec (aluInstr .SUB k) s) (SubEffect (s.readLoc k) false s)) ∧
  (∀ (k : Loc) (s : State), encode (aluInstr .SBB k) = [0b10011#5 ++ k.code] ∧
    Answers (exec (aluInstr .SBB k) s) (SubEffect (s.readLoc k) true s)) ∧
  (∀ (v : Byte) (s : State), encode (aluImmInstr .SUB v) = [0b11010110#8, v] ∧
    Answers (exec (aluImmInstr .SUB v) s) (SubEffect v false s)) ∧
  (∀ (v : Byte) (s : State), encode (aluImmInstr .SBB v) = [0b11011110#8, v] ∧
    Answers (exec (aluImmInstr .SBB v) s) (SubEffect v true s))

/-- The auxiliary-carry quirk of ADC, ACI, SBB and SBI (R116; the nibble borrow is D9): the half-carry or half-borrow differs from
the one the incoming carry would give exactly when the carry changes and the low nibbles are at the boundary. -/
def Obligations.AuxiliaryCarryQuirk : Prop :=
  (∀ (s t : State) (v : Byte), (∃ k, v = s.readLoc k ∧ exec (aluInstr .ADC k) s = .next t) ∨ exec (.aci v) s = .next t →
    let nibbles := s.a.toNat % 16 + v.toNat % 16
    t.flags.ac = decide (15 < nibbles + t.flags.cy.toNat) ∧
    (t.flags.ac ≠ decide (15 < nibbles + s.flags.cy.toNat) ↔ t.flags.cy ≠ s.flags.cy ∧ nibbles = 15)) ∧
  (∀ (s t : State) (v : Byte), (∃ k, v = s.readLoc k ∧ exec (aluInstr .SBB k) s = .next t) ∨ exec (.sbi v) s = .next t →
    t.flags.ac = decide (s.a.toNat % 16 < v.toNat % 16 + t.flags.cy.toNat) ∧
    (t.flags.ac ≠ decide (s.a.toNat % 16 < v.toNat % 16 + s.flags.cy.toNat) ↔
      t.flags.cy ≠ s.flags.cy ∧ s.a.toNat % 16 = v.toNat % 16))

/-- INR and DCR (R178, R179, R180; CY and AC unchanged, D24): inr_x and dcr_x for x in A, B, C, D, E, H, L, M. -/
def Obligations.InrDcrKeepCarries : Prop :=
  (∀ (k : Loc) (s : State), s.wf = true → encode (inrInstr k) = [0b00#2 ++ k.code ++ 0b100#3] ∧
    Answers (exec (inrInstr k) s) fun t =>
      LocHolds k (s.readLoc k + 1) s t ∧ ResultFlags (s.readLoc k + 1) t ∧
      Frame (locParts k ++ [.flagS, .flagZ, .flagP]) (locStored s k) s t) ∧
  (∀ (k : Loc) (s : State), s.wf = true → encode (dcrInstr k) = [0b00#2 ++ k.code ++ 0b101#3] ∧
    Answers (exec (dcrInstr k) s) fun t =>
      LocHolds k (s.readLoc k - 1) s t ∧ ResultFlags (s.readLoc k - 1) t ∧
      Frame (locParts k ++ [.flagS, .flagZ, .flagP]) (locStored s k) s t)

/-- INX and DCX (R181, R182), with no flag effect: inx_B, inx_D, inx_H, inx_SP, dcx_B, dcx_D, dcx_H, dcx_SP. -/
def Obligations.InxDcxCountPairs : Prop :=
  (∀ (rp : RegPair) (s : State), encode (inxInstr rp) = [0b00#2 ++ rp.code ++ 0b0011#4] ∧
    Answers (exec (inxInstr rp) s) fun t => t.readRp rp = s.readRp rp + 1 ∧ Frame (rpParts rp) [] s t) ∧
  (∀ (rp : RegPair) (s : State), encode (dcxInstr rp) = [0b00#2 ++ rp.code ++ 0b1011#4] ∧
    Answers (exec (dcxInstr rp) s) fun t => t.readRp rp = s.readRp rp - 1 ∧ Frame (rpParts rp) [] s t)

/-- DAD (R183; CY cleared when the sum does not wrap, D7): dad_B, dad_D, dad_H, dad_SP. -/
def Obligations.DadAddsToHl : Prop :=
  ∀ (rp : RegPair) (s : State), encode (dadInstr rp) = [0b00#2 ++ rp.code ++ 0b1001#4] ∧
    Answers (exec (dadInstr rp) s) fun t =>
      t.getPair .HL = s.getPair .HL + s.readRp rp ∧
      (t.flags.cy = true ↔ 0xFFFF < (s.getPair .HL).toNat + (s.readRp rp).toNat) ∧
      Frame [.reg .H, .reg .L, .flagCY] [] s t

/-- DAA (R117, R184; AC by D8): daa. -/
def Obligations.DaaCorrectsAccumulator : Prop :=
  encode .daa = [0b00100111#8] ∧
  ∀ s : State,
    let lo := s.a.toNat % 16
    let hi := s.a.toNat / 16
    let low : Nat := if 9 < lo ∨ s.flags.ac = true then 0x06 else 0
    let high : Nat := if 9 < hi ∨ s.flags.cy = true ∨ (9 ≤ hi ∧ 9 < lo) then 0x60 else 0
    Answers (exec .daa s) fun t =>
      t.a.toNat = (s.a.toNat + low + high) % 256 ∧
      (t.flags.cy = true ↔ s.flags.cy = true ∨ high = 0x60) ∧
      (t.flags.ac = true ↔ 15 < lo + low) ∧
      ResultFlags t.a t ∧
      Frame (.reg .A :: allFlags) [] s t

/-- What DAA is for (the document's BCD example in 95_test_vectors.md, S5): after ADI of a two-digit decimal byte to a
two-digit decimal A, DAA leaves the two-digit decimal sum in A and the decimal carry in CY. -/
def Obligations.DaaAfterAddIsDecimalSum : Prop :=
  ∀ (x y : Nat) (s : State), x < 100 → y < 100 → s.a = bcd x →
    Answers (exec (.adi (bcd y)) s) fun u =>
      Answers (exec .daa u) fun t => t.a = bcd ((x + y) % 100) ∧ (t.flags.cy = true ↔ 100 ≤ x + y)

/-! ## Logical -/

/-- ANA, XRA, ORA, ANI, XRI and ORI (R113, R200, R201, R202, R204, R205, R206): ana_x, xra_x and ora_x for x in A, B, C, D,
E, H, L, M; ani; xri; ori. CY and AC are cleared whatever they were. -/
def Obligations.LogicalInstructions : Prop :=
  (∀ (k : Loc) (s : State), encode (aluInstr .ANA k) = [0b10100#5 ++ k.code] ∧
    Answers (exec (aluInstr .ANA k) s) (LogicEffect (s.a &&& s.readLoc k) s)) ∧
  (∀ (k : Loc) (s : State), encode (aluInstr .XRA k) = [0b10101#5 ++ k.code] ∧
    Answers (exec (aluInstr .XRA k) s) (LogicEffect (s.a ^^^ s.readLoc k) s)) ∧
  (∀ (k : Loc) (s : State), encode (aluInstr .ORA k) = [0b10110#5 ++ k.code] ∧
    Answers (exec (aluInstr .ORA k) s) (LogicEffect (s.a ||| s.readLoc k) s)) ∧
  (∀ (v : Byte) (s : State), encode (aluImmInstr .ANA v) = [0b11100110#8, v] ∧
    Answers (exec (aluImmInstr .ANA v) s) (LogicEffect (s.a &&& v) s)) ∧
  (∀ (v : Byte) (s : State), encode (aluImmInstr .XRA v) = [0b11101110#8, v] ∧
    Answers (exec (aluImmInstr .XRA v) s) (LogicEffect (s.a ^^^ v) s)) ∧
  (∀ (v : Byte) (s : State), encode (aluImmInstr .ORA v) = [0b11110110#8, v] ∧
    Answers (exec (aluImmInstr .ORA v) s) (LogicEffect (s.a ||| v) s))

/-- CMP and CPI (R203, R207, and the consequences R119; the nibble borrow is D9): cmp_x for x in A, B, C, D, E, H, L, M;
cpi. -/
def Obligations.CompareInstructions : Prop :=
  (∀ (k : Loc) (s : State), encode (aluInstr .CMP k) = [0b10111#5 ++ k.code] ∧
    Answers (exec (aluInstr .CMP k) s) (CompareEffect (s.readLoc k) s)) ∧
  (∀ (v : Byte) (s : State), encode (aluImmInstr .CMP v) = [0b11111110#8, v] ∧
    Answers (exec (aluImmInstr .CMP v) s) (CompareEffect v s))

/-- RLC and RRC rotate A; RAL and RAR rotate the nine bits CY:A (R208 to R211; which is which, GK13): rlc, rrc, ral, rar. -/
def Obligations.RotateInstructions : Prop :=
  (encode .rlc = [0b00000111#8] ∧ encode .rrc = [0b00001111#8] ∧ encode .ral = [0b00010111#8] ∧
    encode .rar = [0b00011111#8]) ∧
  ∀ s : State,
    Answers (exec .rlc s) (fun t =>
      t.a = s.a.rotateLeft 1 ∧ t.flags.cy = s.a.msb ∧ Frame [.reg .A, .flagCY] [] s t) ∧
    Answers (exec .rrc s) (fun t =>
      t.a = s.a.rotateRight 1 ∧ t.flags.cy = s.a.getLsbD 0 ∧ Frame [.reg .A, .flagCY] [] s t) ∧
    Answers (exec .ral s) (fun t =>
      BitVec.ofBool t.flags.cy ++ t.a = (BitVec.ofBool s.flags.cy ++ s.a).rotateLeft 1 ∧
      Frame [.reg .A, .flagCY] [] s t) ∧
    Answers (exec .rar s) (fun t =>
      BitVec.ofBool t.flags.cy ++ t.a = (BitVec.ofBool s.flags.cy ++ s.a).rotateRight 1 ∧
      Frame [.reg .A, .flagCY] [] s t)

/-- CMA, STC and CMC (R212, R213, R214): cma, stc, cmc. -/
def Obligations.ComplementAndCarryInstructions : Prop :=
  (encode .cma = [0b00101111#8] ∧ encode .stc = [0b00110111#8] ∧ encode .cmc = [0b00111111#8]) ∧
  ∀ s : State,
    Answers (exec .cma s) (fun t => t.a.toNat = 0xFF - s.a.toNat ∧ Frame [.reg .A] [] s t) ∧
    Answers (exec .stc s) (fun t => t.flags.cy = true ∧ Frame [.flagCY] [] s t) ∧
    Answers (exec .cmc s) (fun t => t.flags.cy = !s.flags.cy ∧ Frame [.flagCY] [] s t)

/-! ## Branch -/

/-- JMP and the conditional jumps, taken and not taken (R231, R232 with D5, and the conditions R230; operand order, D1): jmp,
jnz, jz, jnc, jc, jpo, jpe, jp, jm. -/
def Obligations.JumpInstructions : Prop :=
  (∀ f : Flags,
    condHolds .NZ f = !f.z ∧ condHolds .Z f = f.z ∧ condHolds .NC f = !f.cy ∧ condHolds .C f = f.cy ∧
    condHolds .PO f = !f.p ∧ condHolds .PE f = f.p ∧ condHolds .P f = !f.s ∧ condHolds .M f = f.s) ∧
  (∀ (a : Word) (s : State), encode (.jmp a) = [0b11000011#8, loByte a, hiByte a] ∧
    Answers (exec (.jmp a) s) fun t => t.pc = a ∧ Frame [.pc] [] s t) ∧
  (∀ (c : Cond) (a : Word) (s : State), encode (jccInstr c a) = [0b11#2 ++ c.code ++ 0b010#3, loByte a, hiByte a] ∧
    Answers (exec (jccInstr c a) s) fun t =>
      t.pc = (if condHolds c s.flags then a else s.pc) ∧ Frame [.pc] [] s t)

/-- CALL and the conditional calls (R241, R242 with D5; stack order, D2; operand order, D1): the address of the next
instruction is pushed and the target taken, or nothing changes: call, cnz, cz, cnc, cc, cpo, cpe, cp, cm. -/
def Obligations.CallInstructions : Prop :=
  (∀ (a : Word) (s : State), s.wf = true → encode (.call a) = [0b11001101#8, loByte a, hiByte a] ∧
    Answers (exec (.call a) s) fun t =>
      t.pc = a ∧ PushEffect s.pc s t ∧ Frame [.pc, .sp] [s.sp - 1, s.sp - 2] s t) ∧
  (∀ (c : Cond) (a : Word) (s : State), s.wf = true →
    encode (cccInstr c a) = [0b11#2 ++ c.code ++ 0b100#3, loByte a, hiByte a] ∧
    Answers (exec (cccInstr c a) s) fun t =>
      (condHolds c s.flags = true → t.pc = a ∧ PushEffect s.pc s t ∧ Frame [.pc, .sp] [s.sp - 1, s.sp - 2] s t) ∧
      (condHolds c s.flags = false → t = s))

/-- RET and the conditional returns (R251, R252, D2): the word at the stack pointer is popped into `pc`, or nothing changes:
ret, rnz, rz, rnc, rc, rpo, rpe, rp, rm. -/
def Obligations.ReturnInstructions : Prop :=
  (∀ s : State, encode .ret = [0b11001001#8] ∧
    Answers (exec .ret s) fun t =>
      t.pc = joinBytes (s.readByte (s.sp + 1)) (s.readByte s.sp) ∧ t.sp = s.sp + 2 ∧ Frame [.pc, .sp] [] s t) ∧
  (∀ (c : Cond) (s : State), encode (rccInstr c) = [0b11#2 ++ c.code ++ 0b000#3] ∧
    Answers (exec (rccInstr c) s) fun t =>
      (condHolds c s.flags = true →
        t.pc = joinBytes (s.readByte (s.sp + 1)) (s.readByte s.sp) ∧ t.sp = s.sp + 2 ∧ Frame [.pc, .sp] [] s t) ∧
      (condHolds c s.flags = false → t = s))

/-- RST n and PCHL (R93, R261, R262, R305; stack order D2): rst_0 to rst_7, pchl. RST is a call to n * 8 and touches neither
`interruptEnabled` nor any flag. -/
def Obligations.RestartAndPchl : Prop :=
  (∀ (n : BitVec 3) (s : State), s.wf = true → encode (rstInstr n) = [0b11#2 ++ n ++ 0b111#3] ∧
    Answers (exec (rstInstr n) s) fun t =>
      t.pc.toNat = n.toNat * 8 ∧ PushEffect s.pc s t ∧ Frame [.pc, .sp] [s.sp - 1, s.sp - 2] s t) ∧
  (∀ s : State, encode .pchl = [0b11101001#8] ∧
    Answers (exec .pchl s) fun t => t.pc = joinBytes s.h s.l ∧ Frame [.pc] [] s t)

/-! ## Stack -/

/-- PUSH and POP of a register pair (R272, R273, D2): push_B, push_D, push_H, pop_B, pop_D, pop_H. -/
def Obligations.PushPopPairs : Prop :=
  (∀ (p : Pair) (s : State), s.wf = true → encode (pushInstr (.pair p)) = [0b11#2 ++ p.code ++ 0b0101#4] ∧
    Answers (exec (pushInstr (.pair p)) s) fun t =>
      PushEffect (s.getPair p) s t ∧ Frame [.sp] [s.sp - 1, s.sp - 2] s t) ∧
  (∀ (p : Pair) (s : State), encode (popInstr (.pair p)) = [0b11#2 ++ p.code ++ 0b0001#4] ∧
    Answers (exec (popInstr (.pair p)) s) fun t =>
      t.getReg (pairLow p) = s.readByte s.sp ∧ t.getReg (pairHigh p) = s.readByte (s.sp + 1) ∧
      t.sp = s.sp + 2 ∧ Frame (.sp :: pairParts p) [] s t)

/-- PUSH PSW and POP PSW (R33, R274, R275; stack order, D2; which half is A, D3; fixed bits, D4): push_PSW, pop_PSW; and that the one undoes
the other whatever A and the flags become in between. -/
def Obligations.PushPopPsw : Prop :=
  (∀ s : State, s.wf = true → encode .push_PSW = [0b11110101#8] ∧
    Answers (exec .push_PSW s) fun t =>
      t.sp = s.sp - 2 ∧ t.readByte (s.sp - 1) = s.a ∧
      (t.readByte (s.sp - 2)).toNat =
        s.flags.s.toNat * 0x80 + s.flags.z.toNat * 0x40 + s.flags.ac.toNat * 0x10 + s.flags.p.toNat * 0x04 + 0x02 +
          s.flags.cy.toNat * 0x01 ∧
      Frame [.sp] [s.sp - 1, s.sp - 2] s t) ∧
  (∀ s : State, encode .pop_PSW = [0b11110001#8] ∧
    Answers (exec .pop_PSW s) fun t =>
      t.a = s.readByte (s.sp + 1) ∧ t.flags = Flags.unpack (s.readByte s.sp) ∧ t.sp = s.sp + 2 ∧
      Frame ([.reg .A, .sp] ++ allFlags) [] s t) ∧
  (∀ (s : State) (a : Byte) (f : Flags), s.wf = true →
    Answers (exec .push_PSW s) fun u =>
      Answers (exec .pop_PSW ((u.setReg .A a).setFlags f)) fun t =>
        t.a = s.a ∧ t.flags = s.flags ∧ t.sp = s.sp)

/-- XTHL and SPHL (R276, R277; which bytes pair, GK15): xthl, sphl. -/
def Obligations.XthlSphl : Prop :=
  (∀ s : State, s.wf = true → encode .xthl = [0b11100011#8] ∧
    Answers (exec .xthl s) fun t =>
      t.l = s.readByte s.sp ∧ t.h = s.readByte (s.sp + 1) ∧
      t.readByte s.sp = s.l ∧ t.readByte (s.sp + 1) = s.h ∧
      Frame [.reg .H, .reg .L] [s.sp, s.sp + 1] s t) ∧
  (∀ s : State, encode .sphl = [0b11111001#8] ∧
    Answers (exec .sphl s) fun t => t.sp = joinBytes s.h s.l ∧ Frame [.sp] [] s t)

/-! ## I/O and control -/

/-- IN (R285, R303): inPort, for every port, 254 among them. 0xFF with an empty slot; with a present slot the drawn byte,
whatever it is (D12, log entry 2), goes to A as it is and is recorded (D13). -/
def Obligations.InReadsPort : Prop :=
  ∀ (port : Byte) (s : State), encode (.inPort port) = [0b11011011#8, port] ∧
    (s.readSlot = false → Answers (exec (.inPort port) s) fun t => t.a = 0xFF ∧ Frame [.reg .A] [] s t) ∧
    (s.readSlot = true → Answers (exec (.inPort port) s) fun t =>
      t.a = Config.ioReadOracle s.inputCount port ∧ t.inputCount = s.inputCount + 1 ∧
      t.events = s.events ++ [.input port t.a] ∧ Frame [.reg .A, .inputCount, .events] [] s t)

/-- OUT (R286, R304, and the events of R326 with D13): outPort. Port 254 selects the bank of A's low 3 bits and never reaches
the write slot; another port is recorded with a present slot and dropped with an empty one. -/
def Obligations.OutWritesPortOrSelectsBank : Prop :=
  ∀ (port : Byte) (s : State), encode (.outPort port) = [0b11010011#8, port] ∧
    (port = 254 → Answers (exec (.outPort port) s) fun t =>
      t.bank.val = s.a.toNat % 8 ∧ t.events = s.events ++ [.bankSelect t.bank] ∧ Frame [.bank, .events] [] s t) ∧
    (port ≠ 254 → s.writeSlot = true → Answers (exec (.outPort port) s) fun t =>
      t.events = s.events ++ [.output port s.a] ∧ Frame [.events] [] s t) ∧
    (port ≠ 254 → s.writeSlot = false → exec (.outPort port) s = .next s)

/-- NOP, SIM (D6) and the ten undocumented values (R287, R288, R292, R96; the list is GK4) consume one byte and change nothing:
nop, sim, nop_08, nop_10, nop_18, nop_28, nop_38, nop_CB, nop_D9, nop_DD, nop_ED, nop_FD. -/
def Obligations.NoOperations : Prop :=
  ∀ (op : Byte), op ∈ ([0x00, 0x30, 0x08, 0x10, 0x18, 0x28, 0x38, 0xCB, 0xD9, 0xDD, 0xED, 0xFD] : List Byte) →
    ∃ i : Instr, i ∈ [Instr.nop, .sim, .nop_08, .nop_10, .nop_18, .nop_28, .nop_38, .nop_CB, .nop_D9, .nop_DD, .nop_ED, .nop_FD] ∧
      (∀ rest, decode (op :: rest) = .ok (i, rest)) ∧ ∀ s : State, exec i s = .next s

/-- EI, DI (D23), RIM (D6) and HLT (R289, R290, R291, R293): ei, di, rim, hlt. -/
def Obligations.ControlInstructions : Prop :=
  (encode .ei = [0b11111011#8] ∧ encode .di = [0b11110011#8] ∧ encode .rim = [0b00100000#8] ∧ encode .hlt = [0b01110110#8]) ∧
  ∀ s : State,
    Answers (exec .ei s) (fun t => t.interruptEnabled = true ∧ Frame [.interruptEnabled] [] s t) ∧
    Answers (exec .di s) (fun t => t.interruptEnabled = false ∧ Frame [.interruptEnabled] [] s t) ∧
    Answers (exec .rim s) (fun t => t.a = 0x00 ∧ Frame [.reg .A] [] s t) ∧
    Answers (exec .hlt s) (fun t => t.halted = true ∧ Frame [.halted] [] s t)
end

