-- ==== Sys2Proof/Laws/Decode.lean ====
section
/-! SUPPORT. Laws/Decode.lean: small facts of bytes, field codes and decoding. -/

namespace Sys2Proof

/-! ## Bytes of a 16-bit value -/

@[simp] theorem hiByte_joinBytes (hi lo : Byte) : hiByte (joinBytes hi lo) = hi := by
  apply BitVec.eq_of_getLsbD_eq
  intro i hi'
  simp only [hiByte, joinBytes, BitVec.getLsbD_extractLsb', BitVec.getLsbD_append]
  rw [if_neg (by omega)]
  simp [hi']

@[simp] theorem loByte_joinBytes (hi lo : Byte) : loByte (joinBytes hi lo) = lo := by
  apply BitVec.eq_of_getLsbD_eq
  intro i hi'
  simp only [loByte, joinBytes, BitVec.getLsbD_extractLsb', BitVec.getLsbD_append]
  rw [if_pos (by omega)]
  simp [hi']

@[simp] theorem joinBytes_hi_lo (v : Word) : joinBytes (hiByte v) (loByte v) = v := by
  apply BitVec.eq_of_getLsbD_eq
  intro i hi
  simp only [hiByte, loByte, joinBytes, BitVec.getLsbD_extractLsb', BitVec.getLsbD_append]
  by_cases h : i < 8
  · simp [h]
  · have h8 : 8 + (i - 8) = i := by omega
    have hlt : i - 8 < 8 := by omega
    simp [h, h8, hlt]

theorem joinBytes_toNat (hi lo : Byte) : (joinBytes hi lo).toNat = hi.toNat * 256 + lo.toNat := by
  simp only [joinBytes, BitVec.toNat_append]
  rw [← Nat.shiftLeft_add_eq_or_of_lt lo.isLt, Nat.shiftLeft_eq]

/-! ## Field codes -/

@[simp] theorem Loc.ofCode_code (k : Loc) : Loc.ofCode k.code = k := by
  cases k with
  | reg r => cases r <;> rfl
  | M => rfl

@[simp] theorem RegPair.ofCode_code (rp : RegPair) : RegPair.ofCode rp.code = rp := by
  cases rp with
  | pair p => cases p <;> rfl
  | SP => rfl

@[simp] theorem StackPair.ofCode_code (rp : StackPair) : StackPair.ofCode rp.code = rp := by
  cases rp with
  | pair p => cases p <;> rfl
  | PSW => rfl

@[simp] theorem Cond.ofCode_code (c : Cond) : Cond.ofCode c.code = c := by cases c <;> rfl

@[simp] theorem AluOp.ofCode_code (op : AluOp) : AluOp.ofCode op.code = op := by cases op <;> rfl

/-! ## The decoder -/

@[simp] theorem decode_nil : decode [] = .error .noBytes := rfl

/-- An opcode is 1, 2 or 3 bytes long. -/
theorem opcodeLength_cases (op : Byte) : opcodeLength op = 1 ∨ opcodeLength op = 2 ∨ opcodeLength op = 3 := by
  unfold opcodeLength
  split
  · exact .inr (.inr rfl)
  · split
    · exact .inr (.inl rfl)
    · exact .inl rfl

/-- A 1-byte instruction and what follows it. -/
theorem decode_of_length_one {op : Byte} (h : opcodeLength op = 1) (rest : List Byte) :
    decode (op :: rest) = .ok (decodeBytes op 0 0, rest) := by
  simp [decode, h]

/-- A 2-byte instruction and what follows it. -/
theorem decode_of_length_two {op : Byte} (h : opcodeLength op = 2) (x : Byte) (rest : List Byte) :
    decode (op :: x :: rest) = .ok (decodeBytes op x 0, rest) := by
  simp [decode, h]

/-- A 3-byte instruction and what follows it. -/
theorem decode_of_length_three {op : Byte} (h : opcodeLength op = 3) (x y : Byte) (rest : List Byte) :
    decode (op :: x :: y :: rest) = .ok (decodeBytes op x y, rest) := by
  simp [decode, h]

/-- A property of every byte value follows from its 256 instances. -/
theorem forall_byte {P : Byte → Prop} (h : ∀ n : Fin 256, P (BitVec.ofFin n)) (op : Byte) : P op := h op.toFin

end Sys2Proof
end

