-- ==== Sys2Proof/Laws/State.lean ====
section
/-! SUPPORT. Laws/State.lean: what each named update of State does to each field. -/

namespace Sys2Proof.Machine

section
variable (s : State)

/-! ## Registers through their accessor -/

@[simp] theorem State.getReg_A : s.getReg .A = s.a := rfl
@[simp] theorem State.getReg_B : s.getReg .B = s.b := rfl
@[simp] theorem State.getReg_C : s.getReg .C = s.c := rfl
@[simp] theorem State.getReg_D : s.getReg .D = s.d := rfl
@[simp] theorem State.getReg_E : s.getReg .E = s.e := rfl
@[simp] theorem State.getReg_H : s.getReg .H = s.h := rfl
@[simp] theorem State.getReg_L : s.getReg .L = s.l := rfl

theorem State.getReg_setReg (r q : Reg) (v : Byte) : (s.setReg r v).getReg q = if q = r then v else s.getReg q := by
  cases r <;> cases q <;> rfl

/-! ## setReg -/

@[simp] theorem State.a_setReg (r : Reg) (v : Byte) : (s.setReg r v).a = if r = .A then v else s.a := by
  cases r <;> rfl
@[simp] theorem State.b_setReg (r : Reg) (v : Byte) : (s.setReg r v).b = if r = .B then v else s.b := by
  cases r <;> rfl
@[simp] theorem State.c_setReg (r : Reg) (v : Byte) : (s.setReg r v).c = if r = .C then v else s.c := by
  cases r <;> rfl
@[simp] theorem State.d_setReg (r : Reg) (v : Byte) : (s.setReg r v).d = if r = .D then v else s.d := by
  cases r <;> rfl
@[simp] theorem State.e_setReg (r : Reg) (v : Byte) : (s.setReg r v).e = if r = .E then v else s.e := by
  cases r <;> rfl
@[simp] theorem State.h_setReg (r : Reg) (v : Byte) : (s.setReg r v).h = if r = .H then v else s.h := by
  cases r <;> rfl
@[simp] theorem State.l_setReg (r : Reg) (v : Byte) : (s.setReg r v).l = if r = .L then v else s.l := by
  cases r <;> rfl
@[simp] theorem State.sp_setReg (r : Reg) (v : Byte) : (s.setReg r v).sp = s.sp := by cases r <;> rfl
@[simp] theorem State.pc_setReg (r : Reg) (v : Byte) : (s.setReg r v).pc = s.pc := by cases r <;> rfl
@[simp] theorem State.flags_setReg (r : Reg) (v : Byte) : (s.setReg r v).flags = s.flags := by cases r <;> rfl
@[simp] theorem State.halted_setReg (r : Reg) (v : Byte) : (s.setReg r v).halted = s.halted := by cases r <;> rfl
@[simp] theorem State.interruptEnabled_setReg (r : Reg) (v : Byte) : (s.setReg r v).interruptEnabled = s.interruptEnabled := by cases r <;> rfl
@[simp] theorem State.bank_setReg (r : Reg) (v : Byte) : (s.setReg r v).bank = s.bank := by cases r <;> rfl
@[simp] theorem State.mem_setReg (r : Reg) (v : Byte) : (s.setReg r v).mem = s.mem := by cases r <;> rfl
@[simp] theorem State.readSlot_setReg (r : Reg) (v : Byte) : (s.setReg r v).readSlot = s.readSlot := by cases r <;> rfl
@[simp] theorem State.writeSlot_setReg (r : Reg) (v : Byte) : (s.setReg r v).writeSlot = s.writeSlot := by cases r <;> rfl
@[simp] theorem State.inputCount_setReg (r : Reg) (v : Byte) : (s.setReg r v).inputCount = s.inputCount := by cases r <;> rfl
@[simp] theorem State.events_setReg (r : Reg) (v : Byte) : (s.setReg r v).events = s.events := by cases r <;> rfl

/-! ## setSp -/

@[simp] theorem State.a_setSp (v : Word) : (s.setSp v).a = s.a := rfl
@[simp] theorem State.b_setSp (v : Word) : (s.setSp v).b = s.b := rfl
@[simp] theorem State.c_setSp (v : Word) : (s.setSp v).c = s.c := rfl
@[simp] theorem State.d_setSp (v : Word) : (s.setSp v).d = s.d := rfl
@[simp] theorem State.e_setSp (v : Word) : (s.setSp v).e = s.e := rfl
@[simp] theorem State.h_setSp (v : Word) : (s.setSp v).h = s.h := rfl
@[simp] theorem State.l_setSp (v : Word) : (s.setSp v).l = s.l := rfl
@[simp] theorem State.sp_setSp (v : Word) : (s.setSp v).sp = v := rfl
@[simp] theorem State.pc_setSp (v : Word) : (s.setSp v).pc = s.pc := rfl
@[simp] theorem State.flags_setSp (v : Word) : (s.setSp v).flags = s.flags := rfl
@[simp] theorem State.halted_setSp (v : Word) : (s.setSp v).halted = s.halted := rfl
@[simp] theorem State.interruptEnabled_setSp (v : Word) : (s.setSp v).interruptEnabled = s.interruptEnabled := rfl
@[simp] theorem State.bank_setSp (v : Word) : (s.setSp v).bank = s.bank := rfl
@[simp] theorem State.mem_setSp (v : Word) : (s.setSp v).mem = s.mem := rfl
@[simp] theorem State.readSlot_setSp (v : Word) : (s.setSp v).readSlot = s.readSlot := rfl
@[simp] theorem State.writeSlot_setSp (v : Word) : (s.setSp v).writeSlot = s.writeSlot := rfl
@[simp] theorem State.inputCount_setSp (v : Word) : (s.setSp v).inputCount = s.inputCount := rfl
@[simp] theorem State.events_setSp (v : Word) : (s.setSp v).events = s.events := rfl
@[simp] theorem State.getReg_setSp (v : Word) (r : Reg) : (s.setSp v).getReg r = s.getReg r := by cases r <;> rfl

/-! ## setPc -/

@[simp] theorem State.a_setPc (v : Word) : (s.setPc v).a = s.a := rfl
@[simp] theorem State.b_setPc (v : Word) : (s.setPc v).b = s.b := rfl
@[simp] theorem State.c_setPc (v : Word) : (s.setPc v).c = s.c := rfl
@[simp] theorem State.d_setPc (v : Word) : (s.setPc v).d = s.d := rfl
@[simp] theorem State.e_setPc (v : Word) : (s.setPc v).e = s.e := rfl
@[simp] theorem State.h_setPc (v : Word) : (s.setPc v).h = s.h := rfl
@[simp] theorem State.l_setPc (v : Word) : (s.setPc v).l = s.l := rfl
@[simp] theorem State.sp_setPc (v : Word) : (s.setPc v).sp = s.sp := rfl
@[simp] theorem State.pc_setPc (v : Word) : (s.setPc v).pc = v := rfl
@[simp] theorem State.flags_setPc (v : Word) : (s.setPc v).flags = s.flags := rfl
@[simp] theorem State.halted_setPc (v : Word) : (s.setPc v).halted = s.halted := rfl
@[simp] theorem State.interruptEnabled_setPc (v : Word) : (s.setPc v).interruptEnabled = s.interruptEnabled := rfl
@[simp] theorem State.bank_setPc (v : Word) : (s.setPc v).bank = s.bank := rfl
@[simp] theorem State.mem_setPc (v : Word) : (s.setPc v).mem = s.mem := rfl
@[simp] theorem State.readSlot_setPc (v : Word) : (s.setPc v).readSlot = s.readSlot := rfl
@[simp] theorem State.writeSlot_setPc (v : Word) : (s.setPc v).writeSlot = s.writeSlot := rfl
@[simp] theorem State.inputCount_setPc (v : Word) : (s.setPc v).inputCount = s.inputCount := rfl
@[simp] theorem State.events_setPc (v : Word) : (s.setPc v).events = s.events := rfl
@[simp] theorem State.getReg_setPc (v : Word) (r : Reg) : (s.setPc v).getReg r = s.getReg r := by cases r <;> rfl

/-! ## setFlags -/

@[simp] theorem State.a_setFlags (f : Flags) : (s.setFlags f).a = s.a := rfl
@[simp] theorem State.b_setFlags (f : Flags) : (s.setFlags f).b = s.b := rfl
@[simp] theorem State.c_setFlags (f : Flags) : (s.setFlags f).c = s.c := rfl
@[simp] theorem State.d_setFlags (f : Flags) : (s.setFlags f).d = s.d := rfl
@[simp] theorem State.e_setFlags (f : Flags) : (s.setFlags f).e = s.e := rfl
@[simp] theorem State.h_setFlags (f : Flags) : (s.setFlags f).h = s.h := rfl
@[simp] theorem State.l_setFlags (f : Flags) : (s.setFlags f).l = s.l := rfl
@[simp] theorem State.sp_setFlags (f : Flags) : (s.setFlags f).sp = s.sp := rfl
@[simp] theorem State.pc_setFlags (f : Flags) : (s.setFlags f).pc = s.pc := rfl
@[simp] theorem State.flags_setFlags (f : Flags) : (s.setFlags f).flags = f := rfl
@[simp] theorem State.halted_setFlags (f : Flags) : (s.setFlags f).halted = s.halted := rfl
@[simp] theorem State.interruptEnabled_setFlags (f : Flags) : (s.setFlags f).interruptEnabled = s.interruptEnabled := rfl
@[simp] theorem State.bank_setFlags (f : Flags) : (s.setFlags f).bank = s.bank := rfl
@[simp] theorem State.mem_setFlags (f : Flags) : (s.setFlags f).mem = s.mem := rfl
@[simp] theorem State.readSlot_setFlags (f : Flags) : (s.setFlags f).readSlot = s.readSlot := rfl
@[simp] theorem State.writeSlot_setFlags (f : Flags) : (s.setFlags f).writeSlot = s.writeSlot := rfl
@[simp] theorem State.inputCount_setFlags (f : Flags) : (s.setFlags f).inputCount = s.inputCount := rfl
@[simp] theorem State.events_setFlags (f : Flags) : (s.setFlags f).events = s.events := rfl
@[simp] theorem State.getReg_setFlags (f : Flags) (r : Reg) : (s.setFlags f).getReg r = s.getReg r := by cases r <;> rfl

/-! ## setCy -/

@[simp] theorem State.a_setCy (b : Bool) : (s.setCy b).a = s.a := rfl
@[simp] theorem State.b_setCy (b : Bool) : (s.setCy b).b = s.b := rfl
@[simp] theorem State.c_setCy (b : Bool) : (s.setCy b).c = s.c := rfl
@[simp] theorem State.d_setCy (b : Bool) : (s.setCy b).d = s.d := rfl
@[simp] theorem State.e_setCy (b : Bool) : (s.setCy b).e = s.e := rfl
@[simp] theorem State.h_setCy (b : Bool) : (s.setCy b).h = s.h := rfl
@[simp] theorem State.l_setCy (b : Bool) : (s.setCy b).l = s.l := rfl
@[simp] theorem State.sp_setCy (b : Bool) : (s.setCy b).sp = s.sp := rfl
@[simp] theorem State.pc_setCy (b : Bool) : (s.setCy b).pc = s.pc := rfl
@[simp] theorem State.flags_setCy (b : Bool) : (s.setCy b).flags = { s.flags with cy := b } := rfl
@[simp] theorem State.halted_setCy (b : Bool) : (s.setCy b).halted = s.halted := rfl
@[simp] theorem State.interruptEnabled_setCy (b : Bool) : (s.setCy b).interruptEnabled = s.interruptEnabled := rfl
@[simp] theorem State.bank_setCy (b : Bool) : (s.setCy b).bank = s.bank := rfl
@[simp] theorem State.mem_setCy (b : Bool) : (s.setCy b).mem = s.mem := rfl
@[simp] theorem State.readSlot_setCy (b : Bool) : (s.setCy b).readSlot = s.readSlot := rfl
@[simp] theorem State.writeSlot_setCy (b : Bool) : (s.setCy b).writeSlot = s.writeSlot := rfl
@[simp] theorem State.inputCount_setCy (b : Bool) : (s.setCy b).inputCount = s.inputCount := rfl
@[simp] theorem State.events_setCy (b : Bool) : (s.setCy b).events = s.events := rfl
@[simp] theorem State.getReg_setCy (b : Bool) (r : Reg) : (s.setCy b).getReg r = s.getReg r := by cases r <;> rfl

/-! ## setHalted -/

@[simp] theorem State.a_setHalted (b : Bool) : (s.setHalted b).a = s.a := rfl
@[simp] theorem State.b_setHalted (b : Bool) : (s.setHalted b).b = s.b := rfl
@[simp] theorem State.c_setHalted (b : Bool) : (s.setHalted b).c = s.c := rfl
@[simp] theorem State.d_setHalted (b : Bool) : (s.setHalted b).d = s.d := rfl
@[simp] theorem State.e_setHalted (b : Bool) : (s.setHalted b).e = s.e := rfl
@[simp] theorem State.h_setHalted (b : Bool) : (s.setHalted b).h = s.h := rfl
@[simp] theorem State.l_setHalted (b : Bool) : (s.setHalted b).l = s.l := rfl
@[simp] theorem State.sp_setHalted (b : Bool) : (s.setHalted b).sp = s.sp := rfl
@[simp] theorem State.pc_setHalted (b : Bool) : (s.setHalted b).pc = s.pc := rfl
@[simp] theorem State.flags_setHalted (b : Bool) : (s.setHalted b).flags = s.flags := rfl
@[simp] theorem State.halted_setHalted (b : Bool) : (s.setHalted b).halted = b := rfl
@[simp] theorem State.interruptEnabled_setHalted (b : Bool) : (s.setHalted b).interruptEnabled = s.interruptEnabled := rfl
@[simp] theorem State.bank_setHalted (b : Bool) : (s.setHalted b).bank = s.bank := rfl
@[simp] theorem State.mem_setHalted (b : Bool) : (s.setHalted b).mem = s.mem := rfl
@[simp] theorem State.readSlot_setHalted (b : Bool) : (s.setHalted b).readSlot = s.readSlot := rfl
@[simp] theorem State.writeSlot_setHalted (b : Bool) : (s.setHalted b).writeSlot = s.writeSlot := rfl
@[simp] theorem State.inputCount_setHalted (b : Bool) : (s.setHalted b).inputCount = s.inputCount := rfl
@[simp] theorem State.events_setHalted (b : Bool) : (s.setHalted b).events = s.events := rfl
@[simp] theorem State.getReg_setHalted (b : Bool) (r : Reg) : (s.setHalted b).getReg r = s.getReg r := by cases r <;> rfl

/-! ## setInterruptEnabled -/

@[simp] theorem State.a_setInterruptEnabled (b : Bool) : (s.setInterruptEnabled b).a = s.a := rfl
@[simp] theorem State.b_setInterruptEnabled (b : Bool) : (s.setInterruptEnabled b).b = s.b := rfl
@[simp] theorem State.c_setInterruptEnabled (b : Bool) : (s.setInterruptEnabled b).c = s.c := rfl
@[simp] theorem State.d_setInterruptEnabled (b : Bool) : (s.setInterruptEnabled b).d = s.d := rfl
@[simp] theorem State.e_setInterruptEnabled (b : Bool) : (s.setInterruptEnabled b).e = s.e := rfl
@[simp] theorem State.h_setInterruptEnabled (b : Bool) : (s.setInterruptEnabled b).h = s.h := rfl
@[simp] theorem State.l_setInterruptEnabled (b : Bool) : (s.setInterruptEnabled b).l = s.l := rfl
@[simp] theorem State.sp_setInterruptEnabled (b : Bool) : (s.setInterruptEnabled b).sp = s.sp := rfl
@[simp] theorem State.pc_setInterruptEnabled (b : Bool) : (s.setInterruptEnabled b).pc = s.pc := rfl
@[simp] theorem State.flags_setInterruptEnabled (b : Bool) : (s.setInterruptEnabled b).flags = s.flags := rfl
@[simp] theorem State.halted_setInterruptEnabled (b : Bool) : (s.setInterruptEnabled b).halted = s.halted := rfl
@[simp] theorem State.interruptEnabled_setInterruptEnabled (b : Bool) : (s.setInterruptEnabled b).interruptEnabled = b := rfl
@[simp] theorem State.bank_setInterruptEnabled (b : Bool) : (s.setInterruptEnabled b).bank = s.bank := rfl
@[simp] theorem State.mem_setInterruptEnabled (b : Bool) : (s.setInterruptEnabled b).mem = s.mem := rfl
@[simp] theorem State.readSlot_setInterruptEnabled (b : Bool) : (s.setInterruptEnabled b).readSlot = s.readSlot := rfl
@[simp] theorem State.writeSlot_setInterruptEnabled (b : Bool) : (s.setInterruptEnabled b).writeSlot = s.writeSlot := rfl
@[simp] theorem State.inputCount_setInterruptEnabled (b : Bool) : (s.setInterruptEnabled b).inputCount = s.inputCount := rfl
@[simp] theorem State.events_setInterruptEnabled (b : Bool) : (s.setInterruptEnabled b).events = s.events := rfl
@[simp] theorem State.getReg_setInterruptEnabled (b : Bool) (r : Reg) : (s.setInterruptEnabled b).getReg r = s.getReg r := by cases r <;> rfl

/-! ## setBank -/

@[simp] theorem State.a_setBank (n : Fin 8) : (s.setBank n).a = s.a := rfl
@[simp] theorem State.b_setBank (n : Fin 8) : (s.setBank n).b = s.b := rfl
@[simp] theorem State.c_setBank (n : Fin 8) : (s.setBank n).c = s.c := rfl
@[simp] theorem State.d_setBank (n : Fin 8) : (s.setBank n).d = s.d := rfl
@[simp] theorem State.e_setBank (n : Fin 8) : (s.setBank n).e = s.e := rfl
@[simp] theorem State.h_setBank (n : Fin 8) : (s.setBank n).h = s.h := rfl
@[simp] theorem State.l_setBank (n : Fin 8) : (s.setBank n).l = s.l := rfl
@[simp] theorem State.sp_setBank (n : Fin 8) : (s.setBank n).sp = s.sp := rfl
@[simp] theorem State.pc_setBank (n : Fin 8) : (s.setBank n).pc = s.pc := rfl
@[simp] theorem State.flags_setBank (n : Fin 8) : (s.setBank n).flags = s.flags := rfl
@[simp] theorem State.halted_setBank (n : Fin 8) : (s.setBank n).halted = s.halted := rfl
@[simp] theorem State.interruptEnabled_setBank (n : Fin 8) : (s.setBank n).interruptEnabled = s.interruptEnabled := rfl
@[simp] theorem State.bank_setBank (n : Fin 8) : (s.setBank n).bank = n := rfl
@[simp] theorem State.mem_setBank (n : Fin 8) : (s.setBank n).mem = s.mem := rfl
@[simp] theorem State.readSlot_setBank (n : Fin 8) : (s.setBank n).readSlot = s.readSlot := rfl
@[simp] theorem State.writeSlot_setBank (n : Fin 8) : (s.setBank n).writeSlot = s.writeSlot := rfl
@[simp] theorem State.inputCount_setBank (n : Fin 8) : (s.setBank n).inputCount = s.inputCount := rfl
@[simp] theorem State.events_setBank (n : Fin 8) : (s.setBank n).events = s.events := rfl
@[simp] theorem State.getReg_setBank (n : Fin 8) (r : Reg) : (s.setBank n).getReg r = s.getReg r := by cases r <;> rfl

/-! ## record -/

@[simp] theorem State.a_record (ev : IoEvent) : (s.record ev).a = s.a := rfl
@[simp] theorem State.b_record (ev : IoEvent) : (s.record ev).b = s.b := rfl
@[simp] theorem State.c_record (ev : IoEvent) : (s.record ev).c = s.c := rfl
@[simp] theorem State.d_record (ev : IoEvent) : (s.record ev).d = s.d := rfl
@[simp] theorem State.e_record (ev : IoEvent) : (s.record ev).e = s.e := rfl
@[simp] theorem State.h_record (ev : IoEvent) : (s.record ev).h = s.h := rfl
@[simp] theorem State.l_record (ev : IoEvent) : (s.record ev).l = s.l := rfl
@[simp] theorem State.sp_record (ev : IoEvent) : (s.record ev).sp = s.sp := rfl
@[simp] theorem State.pc_record (ev : IoEvent) : (s.record ev).pc = s.pc := rfl
@[simp] theorem State.flags_record (ev : IoEvent) : (s.record ev).flags = s.flags := rfl
@[simp] theorem State.halted_record (ev : IoEvent) : (s.record ev).halted = s.halted := rfl
@[simp] theorem State.interruptEnabled_record (ev : IoEvent) : (s.record ev).interruptEnabled = s.interruptEnabled := rfl
@[simp] theorem State.bank_record (ev : IoEvent) : (s.record ev).bank = s.bank := rfl
@[simp] theorem State.mem_record (ev : IoEvent) : (s.record ev).mem = s.mem := rfl
@[simp] theorem State.readSlot_record (ev : IoEvent) : (s.record ev).readSlot = s.readSlot := rfl
@[simp] theorem State.writeSlot_record (ev : IoEvent) : (s.record ev).writeSlot = s.writeSlot := rfl
@[simp] theorem State.inputCount_record (ev : IoEvent) : (s.record ev).inputCount = s.inputCount := rfl
@[simp] theorem State.events_record (ev : IoEvent) : (s.record ev).events = s.events ++ [ev] := rfl
@[simp] theorem State.getReg_record (ev : IoEvent) (r : Reg) : (s.record ev).getReg r = s.getReg r := by cases r <;> rfl

/-! ## countInput -/

@[simp] theorem State.a_countInput : (s.countInput).a = s.a := rfl
@[simp] theorem State.b_countInput : (s.countInput).b = s.b := rfl
@[simp] theorem State.c_countInput : (s.countInput).c = s.c := rfl
@[simp] theorem State.d_countInput : (s.countInput).d = s.d := rfl
@[simp] theorem State.e_countInput : (s.countInput).e = s.e := rfl
@[simp] theorem State.h_countInput : (s.countInput).h = s.h := rfl
@[simp] theorem State.l_countInput : (s.countInput).l = s.l := rfl
@[simp] theorem State.sp_countInput : (s.countInput).sp = s.sp := rfl
@[simp] theorem State.pc_countInput : (s.countInput).pc = s.pc := rfl
@[simp] theorem State.flags_countInput : (s.countInput).flags = s.flags := rfl
@[simp] theorem State.halted_countInput : (s.countInput).halted = s.halted := rfl
@[simp] theorem State.interruptEnabled_countInput : (s.countInput).interruptEnabled = s.interruptEnabled := rfl
@[simp] theorem State.bank_countInput : (s.countInput).bank = s.bank := rfl
@[simp] theorem State.mem_countInput : (s.countInput).mem = s.mem := rfl
@[simp] theorem State.readSlot_countInput : (s.countInput).readSlot = s.readSlot := rfl
@[simp] theorem State.writeSlot_countInput : (s.countInput).writeSlot = s.writeSlot := rfl
@[simp] theorem State.inputCount_countInput : (s.countInput).inputCount = s.inputCount + 1 := rfl
@[simp] theorem State.events_countInput : (s.countInput).events = s.events := rfl
@[simp] theorem State.getReg_countInput (r : Reg) : (s.countInput).getReg r = s.getReg r := by cases r <;> rfl

/-! ## writeBank -/

@[simp] theorem State.a_writeBank (bk : Fin 8) (addr : Word) (v : Byte) : (s.writeBank bk addr v).a = s.a := rfl
@[simp] theorem State.b_writeBank (bk : Fin 8) (addr : Word) (v : Byte) : (s.writeBank bk addr v).b = s.b := rfl
@[simp] theorem State.c_writeBank (bk : Fin 8) (addr : Word) (v : Byte) : (s.writeBank bk addr v).c = s.c := rfl
@[simp] theorem State.d_writeBank (bk : Fin 8) (addr : Word) (v : Byte) : (s.writeBank bk addr v).d = s.d := rfl
@[simp] theorem State.e_writeBank (bk : Fin 8) (addr : Word) (v : Byte) : (s.writeBank bk addr v).e = s.e := rfl
@[simp] theorem State.h_writeBank (bk : Fin 8) (addr : Word) (v : Byte) : (s.writeBank bk addr v).h = s.h := rfl
@[simp] theorem State.l_writeBank (bk : Fin 8) (addr : Word) (v : Byte) : (s.writeBank bk addr v).l = s.l := rfl
@[simp] theorem State.sp_writeBank (bk : Fin 8) (addr : Word) (v : Byte) : (s.writeBank bk addr v).sp = s.sp := rfl
@[simp] theorem State.pc_writeBank (bk : Fin 8) (addr : Word) (v : Byte) : (s.writeBank bk addr v).pc = s.pc := rfl
@[simp] theorem State.flags_writeBank (bk : Fin 8) (addr : Word) (v : Byte) : (s.writeBank bk addr v).flags = s.flags := rfl
@[simp] theorem State.halted_writeBank (bk : Fin 8) (addr : Word) (v : Byte) : (s.writeBank bk addr v).halted = s.halted := rfl
@[simp] theorem State.interruptEnabled_writeBank (bk : Fin 8) (addr : Word) (v : Byte) : (s.writeBank bk addr v).interruptEnabled = s.interruptEnabled := rfl
@[simp] theorem State.bank_writeBank (bk : Fin 8) (addr : Word) (v : Byte) : (s.writeBank bk addr v).bank = s.bank := rfl
@[simp] theorem State.mem_writeBank (bk : Fin 8) (addr : Word) (v : Byte) : (s.writeBank bk addr v).mem = Memory.write s.mem (cellKey bk addr) v := rfl
@[simp] theorem State.readSlot_writeBank (bk : Fin 8) (addr : Word) (v : Byte) : (s.writeBank bk addr v).readSlot = s.readSlot := rfl
@[simp] theorem State.writeSlot_writeBank (bk : Fin 8) (addr : Word) (v : Byte) : (s.writeBank bk addr v).writeSlot = s.writeSlot := rfl
@[simp] theorem State.inputCount_writeBank (bk : Fin 8) (addr : Word) (v : Byte) : (s.writeBank bk addr v).inputCount = s.inputCount := rfl
@[simp] theorem State.events_writeBank (bk : Fin 8) (addr : Word) (v : Byte) : (s.writeBank bk addr v).events = s.events := rfl
@[simp] theorem State.getReg_writeBank (bk : Fin 8) (addr : Word) (v : Byte) (r : Reg) : (s.writeBank bk addr v).getReg r = s.getReg r := by cases r <;> rfl

/-! ## writeByte -/

@[simp] theorem State.a_writeByte (addr : Word) (v : Byte) : (s.writeByte addr v).a = s.a := rfl
@[simp] theorem State.b_writeByte (addr : Word) (v : Byte) : (s.writeByte addr v).b = s.b := rfl
@[simp] theorem State.c_writeByte (addr : Word) (v : Byte) : (s.writeByte addr v).c = s.c := rfl
@[simp] theorem State.d_writeByte (addr : Word) (v : Byte) : (s.writeByte addr v).d = s.d := rfl
@[simp] theorem State.e_writeByte (addr : Word) (v : Byte) : (s.writeByte addr v).e = s.e := rfl
@[simp] theorem State.h_writeByte (addr : Word) (v : Byte) : (s.writeByte addr v).h = s.h := rfl
@[simp] theorem State.l_writeByte (addr : Word) (v : Byte) : (s.writeByte addr v).l = s.l := rfl
@[simp] theorem State.sp_writeByte (addr : Word) (v : Byte) : (s.writeByte addr v).sp = s.sp := rfl
@[simp] theorem State.pc_writeByte (addr : Word) (v : Byte) : (s.writeByte addr v).pc = s.pc := rfl
@[simp] theorem State.flags_writeByte (addr : Word) (v : Byte) : (s.writeByte addr v).flags = s.flags := rfl
@[simp] theorem State.halted_writeByte (addr : Word) (v : Byte) : (s.writeByte addr v).halted = s.halted := rfl
@[simp] theorem State.interruptEnabled_writeByte (addr : Word) (v : Byte) : (s.writeByte addr v).interruptEnabled = s.interruptEnabled := rfl
@[simp] theorem State.bank_writeByte (addr : Word) (v : Byte) : (s.writeByte addr v).bank = s.bank := rfl
@[simp] theorem State.mem_writeByte (addr : Word) (v : Byte) : (s.writeByte addr v).mem = Memory.write s.mem (cellKey s.bank addr) v := rfl
@[simp] theorem State.readSlot_writeByte (addr : Word) (v : Byte) : (s.writeByte addr v).readSlot = s.readSlot := rfl
@[simp] theorem State.writeSlot_writeByte (addr : Word) (v : Byte) : (s.writeByte addr v).writeSlot = s.writeSlot := rfl
@[simp] theorem State.inputCount_writeByte (addr : Word) (v : Byte) : (s.writeByte addr v).inputCount = s.inputCount := rfl
@[simp] theorem State.events_writeByte (addr : Word) (v : Byte) : (s.writeByte addr v).events = s.events := rfl
@[simp] theorem State.getReg_writeByte (addr : Word) (v : Byte) (r : Reg) : (s.writeByte addr v).getReg r = s.getReg r := by cases r <;> rfl

/-! ## Reads that an update does not reach -/

/-- A byte of a bank depends on the memory alone. -/
theorem State.readBank_congr {s t : State} (h : t.mem = s.mem) (bk : Fin 8) (addr : Word) :
    t.readBank bk addr = s.readBank bk addr := by
  simp [State.readBank, h]

/-- A byte of the active bank depends on the memory and the bank alone. -/
theorem State.readByte_congr {s t : State} (h : t.mem = s.mem) (hb : t.bank = s.bank) (addr : Word) :
    t.readByte addr = s.readByte addr := by
  simp [State.readByte, State.readBank, h, hb]

/-- A pair depends on its two registers alone. -/
theorem State.getPair_congr {s t : State} (h : ∀ r, t.getReg r = s.getReg r) (p : Pair) : t.getPair p = s.getPair p := by
  simp [State.getPair, h]

@[simp] theorem State.readBank_setReg (r : Reg) (v : Byte) (bk : Fin 8) (x : Word) :
    (s.setReg r v).readBank bk x = s.readBank bk x := State.readBank_congr (by simp) bk x
@[simp] theorem State.readByte_setReg (r : Reg) (v : Byte) (x : Word) : (s.setReg r v).readByte x = s.readByte x :=
  State.readByte_congr (by simp) (by simp) x
@[simp] theorem State.readBank_setSp (v : Word) (bk : Fin 8) (x : Word) :
    (s.setSp v).readBank bk x = s.readBank bk x := State.readBank_congr (by simp) bk x
@[simp] theorem State.readByte_setSp (v : Word) (x : Word) : (s.setSp v).readByte x = s.readByte x :=
  State.readByte_congr (by simp) (by simp) x
@[simp] theorem State.readBank_setPc (v : Word) (bk : Fin 8) (x : Word) :
    (s.setPc v).readBank bk x = s.readBank bk x := State.readBank_congr (by simp) bk x
@[simp] theorem State.readByte_setPc (v : Word) (x : Word) : (s.setPc v).readByte x = s.readByte x :=
  State.readByte_congr (by simp) (by simp) x
@[simp] theorem State.readBank_setFlags (f : Flags) (bk : Fin 8) (x : Word) :
    (s.setFlags f).readBank bk x = s.readBank bk x := State.readBank_congr (by simp) bk x
@[simp] theorem State.readByte_setFlags (f : Flags) (x : Word) : (s.setFlags f).readByte x = s.readByte x :=
  State.readByte_congr (by simp) (by simp) x
@[simp] theorem State.readBank_setCy (b : Bool) (bk : Fin 8) (x : Word) :
    (s.setCy b).readBank bk x = s.readBank bk x := State.readBank_congr (by simp) bk x
@[simp] theorem State.readByte_setCy (b : Bool) (x : Word) : (s.setCy b).readByte x = s.readByte x :=
  State.readByte_congr (by simp) (by simp) x
@[simp] theorem State.readBank_setHalted (b : Bool) (bk : Fin 8) (x : Word) :
    (s.setHalted b).readBank bk x = s.readBank bk x := State.readBank_congr (by simp) bk x
@[simp] theorem State.readByte_setHalted (b : Bool) (x : Word) : (s.setHalted b).readByte x = s.readByte x :=
  State.readByte_congr (by simp) (by simp) x
@[simp] theorem State.readBank_setInterruptEnabled (b : Bool) (bk : Fin 8) (x : Word) :
    (s.setInterruptEnabled b).readBank bk x = s.readBank bk x := State.readBank_congr (by simp) bk x
@[simp] theorem State.readByte_setInterruptEnabled (b : Bool) (x : Word) : (s.setInterruptEnabled b).readByte x = s.readByte x :=
  State.readByte_congr (by simp) (by simp) x
@[simp] theorem State.readBank_setBank (n : Fin 8) (bk : Fin 8) (x : Word) :
    (s.setBank n).readBank bk x = s.readBank bk x := State.readBank_congr (by simp) bk x
@[simp] theorem State.readBank_record (ev : IoEvent) (bk : Fin 8) (x : Word) :
    (s.record ev).readBank bk x = s.readBank bk x := State.readBank_congr (by simp) bk x
@[simp] theorem State.readByte_record (ev : IoEvent) (x : Word) : (s.record ev).readByte x = s.readByte x :=
  State.readByte_congr (by simp) (by simp) x
@[simp] theorem State.readBank_countInput (bk : Fin 8) (x : Word) :
    (s.countInput).readBank bk x = s.readBank bk x := State.readBank_congr (by simp) bk x
@[simp] theorem State.readByte_countInput (x : Word) : (s.countInput).readByte x = s.readByte x :=
  State.readByte_congr (by simp) (by simp) x
@[simp] theorem State.readByte_setBank (n : Fin 8) (x : Word) : (s.setBank n).readByte x = s.readBank n x := rfl
@[simp] theorem State.getPair_setSp (v : Word) (p : Pair) : (s.setSp v).getPair p = s.getPair p :=
  State.getPair_congr (by simp) p
@[simp] theorem State.getPair_setPc (v : Word) (p : Pair) : (s.setPc v).getPair p = s.getPair p :=
  State.getPair_congr (by simp) p
@[simp] theorem State.getPair_setFlags (f : Flags) (p : Pair) : (s.setFlags f).getPair p = s.getPair p :=
  State.getPair_congr (by simp) p
@[simp] theorem State.getPair_setCy (b : Bool) (p : Pair) : (s.setCy b).getPair p = s.getPair p :=
  State.getPair_congr (by simp) p
@[simp] theorem State.getPair_setHalted (b : Bool) (p : Pair) : (s.setHalted b).getPair p = s.getPair p :=
  State.getPair_congr (by simp) p
@[simp] theorem State.getPair_setInterruptEnabled (b : Bool) (p : Pair) : (s.setInterruptEnabled b).getPair p = s.getPair p :=
  State.getPair_congr (by simp) p
@[simp] theorem State.getPair_setBank (n : Fin 8) (p : Pair) : (s.setBank n).getPair p = s.getPair p :=
  State.getPair_congr (by simp) p
@[simp] theorem State.getPair_record (ev : IoEvent) (p : Pair) : (s.record ev).getPair p = s.getPair p :=
  State.getPair_congr (by simp) p
@[simp] theorem State.getPair_countInput (p : Pair) : (s.countInput).getPair p = s.getPair p :=
  State.getPair_congr (by simp) p
@[simp] theorem State.getPair_writeBank (bk : Fin 8) (addr : Word) (v : Byte) (p : Pair) : (s.writeBank bk addr v).getPair p = s.getPair p :=
  State.getPair_congr (by simp) p
@[simp] theorem State.getPair_writeByte (addr : Word) (v : Byte) (p : Pair) : (s.writeByte addr v).getPair p = s.getPair p :=
  State.getPair_congr (by simp) p

/-! ## Pairs -/

@[simp] theorem State.getPair_BC : s.getPair .BC = joinBytes s.b s.c := rfl
@[simp] theorem State.getPair_DE : s.getPair .DE = joinBytes s.d s.e := rfl
@[simp] theorem State.getPair_HL : s.getPair .HL = joinBytes s.h s.l := rfl

@[simp] theorem State.sp_setPair (p : Pair) (v : Word) : (s.setPair p v).sp = s.sp := by simp [State.setPair]
@[simp] theorem State.pc_setPair (p : Pair) (v : Word) : (s.setPair p v).pc = s.pc := by simp [State.setPair]
@[simp] theorem State.flags_setPair (p : Pair) (v : Word) : (s.setPair p v).flags = s.flags := by simp [State.setPair]
@[simp] theorem State.halted_setPair (p : Pair) (v : Word) : (s.setPair p v).halted = s.halted := by simp [State.setPair]
@[simp] theorem State.interruptEnabled_setPair (p : Pair) (v : Word) : (s.setPair p v).interruptEnabled = s.interruptEnabled := by simp [State.setPair]
@[simp] theorem State.bank_setPair (p : Pair) (v : Word) : (s.setPair p v).bank = s.bank := by simp [State.setPair]
@[simp] theorem State.mem_setPair (p : Pair) (v : Word) : (s.setPair p v).mem = s.mem := by simp [State.setPair]
@[simp] theorem State.readSlot_setPair (p : Pair) (v : Word) : (s.setPair p v).readSlot = s.readSlot := by simp [State.setPair]
@[simp] theorem State.writeSlot_setPair (p : Pair) (v : Word) : (s.setPair p v).writeSlot = s.writeSlot := by simp [State.setPair]
@[simp] theorem State.inputCount_setPair (p : Pair) (v : Word) : (s.setPair p v).inputCount = s.inputCount := by simp [State.setPair]
@[simp] theorem State.events_setPair (p : Pair) (v : Word) : (s.setPair p v).events = s.events := by simp [State.setPair]
@[simp] theorem State.readBank_setPair (p : Pair) (v : Word) (bk : Fin 8) (x : Word) :
    (s.setPair p v).readBank bk x = s.readBank bk x := State.readBank_congr (by simp) bk x
@[simp] theorem State.readByte_setPair (p : Pair) (v : Word) (x : Word) : (s.setPair p v).readByte x = s.readByte x :=
  State.readByte_congr (by simp) (by simp) x

/-- What a pair write does to each register. -/
theorem State.getReg_setPair (p : Pair) (v : Word) (q : Reg) :
    (s.setPair p v).getReg q
      = if q = pairLow p then loByte v else if q = pairHigh p then hiByte v else s.getReg q := by
  simp [State.setPair, State.getReg_setReg]

@[simp] theorem State.a_setPair_BC (v : Word) : (s.setPair .BC v).a = s.a := rfl
@[simp] theorem State.b_setPair_BC (v : Word) : (s.setPair .BC v).b = hiByte v := rfl
@[simp] theorem State.c_setPair_BC (v : Word) : (s.setPair .BC v).c = loByte v := rfl
@[simp] theorem State.d_setPair_BC (v : Word) : (s.setPair .BC v).d = s.d := rfl
@[simp] theorem State.e_setPair_BC (v : Word) : (s.setPair .BC v).e = s.e := rfl
@[simp] theorem State.h_setPair_BC (v : Word) : (s.setPair .BC v).h = s.h := rfl
@[simp] theorem State.l_setPair_BC (v : Word) : (s.setPair .BC v).l = s.l := rfl
@[simp] theorem State.a_setPair_DE (v : Word) : (s.setPair .DE v).a = s.a := rfl
@[simp] theorem State.b_setPair_DE (v : Word) : (s.setPair .DE v).b = s.b := rfl
@[simp] theorem State.c_setPair_DE (v : Word) : (s.setPair .DE v).c = s.c := rfl
@[simp] theorem State.d_setPair_DE (v : Word) : (s.setPair .DE v).d = hiByte v := rfl
@[simp] theorem State.e_setPair_DE (v : Word) : (s.setPair .DE v).e = loByte v := rfl
@[simp] theorem State.h_setPair_DE (v : Word) : (s.setPair .DE v).h = s.h := rfl
@[simp] theorem State.l_setPair_DE (v : Word) : (s.setPair .DE v).l = s.l := rfl
@[simp] theorem State.a_setPair_HL (v : Word) : (s.setPair .HL v).a = s.a := rfl
@[simp] theorem State.b_setPair_HL (v : Word) : (s.setPair .HL v).b = s.b := rfl
@[simp] theorem State.c_setPair_HL (v : Word) : (s.setPair .HL v).c = s.c := rfl
@[simp] theorem State.d_setPair_HL (v : Word) : (s.setPair .HL v).d = s.d := rfl
@[simp] theorem State.e_setPair_HL (v : Word) : (s.setPair .HL v).e = s.e := rfl
@[simp] theorem State.h_setPair_HL (v : Word) : (s.setPair .HL v).h = hiByte v := rfl
@[simp] theorem State.l_setPair_HL (v : Word) : (s.setPair .HL v).l = loByte v := rfl

end

end Sys2Proof.Machine
end

