-- ==== Sys2Proof/Laws/Memory.lean ====
section
/-! SUPPORT. Laws/Memory.lean: read after write, and that every write keeps the canonical form (20_memory.md R52, R53, R73). -/

namespace Sys2Proof.Machine

/-! ## Places of the backing store -/

theorem cellKey_lt (bk : Fin 8) (addr : Word) : cellKey bk addr < Config.storeSize := by
  have := bk.isLt
  have := addr.isLt
  simp only [cellKey, Config.bankSize, Config.storeSize]
  omega

/-- No two bytes of the eight banks share a place. -/
theorem cellKey_inj {bk bk' : Fin 8} {addr addr' : Word} :
    cellKey bk addr = cellKey bk' addr' ↔ bk = bk' ∧ addr = addr' := by
  constructor
  · intro h
    have := addr.isLt
    have := addr'.isLt
    simp only [cellKey, Config.bankSize] at h
    constructor
    · apply Fin.ext
      omega
    · apply BitVec.eq_of_toNat_eq
      omega
  · rintro ⟨rfl, rfl⟩
    rfl

/-! ## The canonical form -/

@[simp] theorem Memory.wf_nil : Memory.wf [] = true := rfl

theorem Memory.wf_cons {k : Nat} {v : Byte} {rest : Memory} :
    Memory.wf ((k, v) :: rest) = true ↔
      k < Config.storeSize ∧ v ≠ Config.blankByte ∧ (∀ c ∈ rest, k < c.1) ∧ Memory.wf rest = true := by
  simp [Memory.wf, and_assoc]

/-- A place below every listed one reads as the blank byte. -/
theorem Memory.read_of_lt {m : Memory} {key : Nat} (h : ∀ c ∈ m, key < c.1) : Memory.read m key = Config.blankByte := by
  cases m with
  | nil => rfl
  | cons c rest => simp [Memory.read, h c (by simp)]

/-- What `Memory.cons` reads as, in front of cells that lie above it. -/
theorem Memory.read_consCell {key : Nat} {v : Byte} {rest : Memory} (h : ∀ c ∈ rest, key < c.1) (q : Nat) :
    Memory.read (Memory.cons key v rest) q = if q = key then v else Memory.read rest q := by
  unfold Memory.cons
  split
  · next hv =>
    subst hv
    split
    · next hq => rw [hq]; exact Memory.read_of_lt h
    · rfl
  · simp only [Memory.read]
    by_cases hlt : q < key
    · rw [if_pos hlt, if_neg (by omega), Memory.read_of_lt]
      intro c hc
      have := h c hc
      omega
    · rw [if_neg hlt]

/-- Read after write: the written place reads as written, every other place as before. -/
theorem Memory.read_write {m : Memory} (hm : Memory.wf m = true) (key : Nat) (v : Byte) (q : Nat) :
    Memory.read (Memory.write m key v) q = if q = key then v else Memory.read m q := by
  induction m with
  | nil => exact Memory.read_consCell (by simp) q
  | cons c rest ih =>
    obtain ⟨k, w⟩ := c
    obtain ⟨-, -, hgt, hrest⟩ := Memory.wf_cons.1 hm
    unfold Memory.write
    split
    · next hlt =>
      apply Memory.read_consCell
      intro c hc
      rcases List.mem_cons.1 hc with rfl | hc
      · exact hlt
      · have := hgt c hc
        omega
    · split
      · next heq =>
        subst heq
        rw [Memory.read_consCell hgt]
        by_cases hq : q = key
        · simp [hq]
        · simp only [Memory.read, if_neg hq]
          split
          · next hlt =>
            apply Memory.read_of_lt
            intro c hc
            have := hgt c hc
            omega
          · rfl
      · next hlt hne =>
        simp only [Memory.read, ih hrest]
        by_cases hq : q = key
        · subst hq
          simp [hlt, hne]
        · simp [hq]

/-- Where the listed places of a written memory come from. -/
theorem Memory.mem_write {m : Memory} {key : Nat} {v : Byte} {c : Host.Cell} (h : c ∈ Memory.write m key v) :
    c = (key, v) ∨ c ∈ m := by
  induction m with
  | nil =>
    simp only [Memory.write, Memory.cons] at h
    split at h <;> simp_all
  | cons e rest ih =>
    obtain ⟨k, w⟩ := e
    simp only [Memory.write, Memory.cons] at h
    split at h
    · split at h <;> simp_all
    · split at h
      · split at h
        · exact .inr (List.mem_cons_of_mem _ h)
        · rcases List.mem_cons.1 h with h | h
          · exact .inl h
          · exact .inr (List.mem_cons_of_mem _ h)
      · rcases List.mem_cons.1 h with h | h
        · exact .inr (by simp [h])
        · rcases ih h with h | h
          · exact .inl h
          · exact .inr (List.mem_cons_of_mem _ h)

/-- `Memory.cons` keeps the canonical form in front of cells that lie above it. -/
theorem Memory.wf_consCell {key : Nat} {v : Byte} {rest : Memory} (hk : key < Config.storeSize)
    (h : ∀ c ∈ rest, key < c.1) (hr : Memory.wf rest = true) : Memory.wf (Memory.cons key v rest) = true := by
  unfold Memory.cons
  split
  · exact hr
  · next hv => exact Memory.wf_cons.2 ⟨hk, hv, h, hr⟩

/-- A write inside the backing store keeps the canonical form. -/
theorem Memory.wf_write {m : Memory} (hm : Memory.wf m = true) {key : Nat} (hk : key < Config.storeSize) (v : Byte) :
    Memory.wf (Memory.write m key v) = true := by
  induction m with
  | nil => exact Memory.wf_consCell hk (by simp) rfl
  | cons c rest ih =>
    obtain ⟨k, w⟩ := c
    obtain ⟨hks, hw, hgt, hrest⟩ := Memory.wf_cons.1 hm
    unfold Memory.write
    split
    · next hlt =>
      apply Memory.wf_consCell hk _ hm
      intro c hc
      rcases List.mem_cons.1 hc with rfl | hc
      · exact hlt
      · have := hgt c hc
        omega
    · split
      · next heq =>
        subst heq
        exact Memory.wf_consCell hk hgt hrest
      · next hlt hne =>
        refine Memory.wf_cons.2 ⟨hks, hw, ?_, ih hrest⟩
        intro c hc
        rcases Memory.mem_write hc with rfl | hc
        · show k < key
          omega
        · exact hgt c hc

/-! ## The banks -/

/-- Read after write over the banks: one byte of one bank changes (R53, R73). -/
theorem State.readBank_writeBank {s : State} (hs : s.wf = true) (bk : Fin 8) (addr : Word) (v : Byte) (bk' : Fin 8)
    (addr' : Word) :
    (s.writeBank bk addr v).readBank bk' addr' = if bk' = bk ∧ addr' = addr then v else s.readBank bk' addr' := by
  simp only [State.readBank, State.writeBank]
  rw [Memory.read_write hs]
  simp only [cellKey_inj]

/-- A bank write keeps the canonical form. -/
theorem State.wf_writeBank {s : State} (hs : s.wf = true) (bk : Fin 8) (addr : Word) (v : Byte) :
    (s.writeBank bk addr v).wf = true := Memory.wf_write hs (cellKey_lt bk addr) v

/-- Read after write in the active bank, seen from every bank (R52, R53). -/
theorem State.readBank_writeByte {s : State} (hs : s.wf = true) (addr : Word) (v : Byte) (bk : Fin 8) (x : Word) :
    (s.writeByte addr v).readBank bk x = if bk = s.bank ∧ x = addr then v else s.readBank bk x :=
  State.readBank_writeBank hs s.bank addr v bk x

/-- Read after write in the active bank (R52, R53). -/
theorem State.readByte_writeByte {s : State} (hs : s.wf = true) (addr : Word) (v : Byte) (x : Word) :
    (s.writeByte addr v).readByte x = if x = addr then v else s.readByte x := by
  simp [State.readByte, State.readBank_writeByte hs]

/-- A store keeps the canonical form. -/
theorem State.wf_writeByte {s : State} (hs : s.wf = true) (addr : Word) (v : Byte) : (s.writeByte addr v).wf = true :=
  State.wf_writeBank hs s.bank addr v

/-- The canonical form depends on the memory alone. -/
theorem State.wf_congr {s t : State} (h : t.mem = s.mem) : t.wf = s.wf := by
  simp [State.wf, h]

end Sys2Proof.Machine
end

