-- ==== Sys2Proof/Laws/Ops.lean ====
section
/-! SUPPORT. Laws/Ops.lean: one lemma per shared operation: words of memory, operand forms, the stack, the gateway, fetch and
step. -/

namespace Sys2Proof.Machine

/-! ## 16-bit quantities of memory -/

/-- `addr + 1` is another address (R55). -/
theorem add_one_ne (addr : Word) : addr + 1 ≠ addr := by bv_omega

/-- The two bytes a 16-bit store writes, and that it writes no other (R56, R57). -/
theorem State.readBank_writeWord {s : State} (hs : s.wf = true) (addr v : Word) (bk : Fin 8) (x : Word) :
    (s.writeWord addr v).readBank bk x =
      if bk = s.bank ∧ x = addr + 1 then hiByte v
      else if bk = s.bank ∧ x = addr then loByte v
      else s.readBank bk x := by
  simp only [State.writeWord]
  rw [State.readBank_writeByte (State.wf_writeByte hs _ _), State.readBank_writeByte hs]
  rfl

/-- The two bytes a 16-bit store writes, read in the active bank (R56, R57). -/
theorem State.readByte_writeWord {s : State} (hs : s.wf = true) (addr v x : Word) :
    (s.writeWord addr v).readByte x =
      if x = addr + 1 then hiByte v else if x = addr then loByte v else s.readByte x := by
  have h := State.readBank_writeWord hs addr v s.bank x
  simp only [true_and] at h
  exact h

theorem State.wf_writeWord {s : State} (hs : s.wf = true) (addr v : Word) : (s.writeWord addr v).wf = true :=
  State.wf_writeByte (State.wf_writeByte hs _ _) _ _

/-- A 16-bit store changes nothing but the memory. -/
theorem State.writeWord_eq (s : State) (addr v : Word) :
    s.writeWord addr v = { s with mem := (s.writeWord addr v).mem } := rfl

@[simp] theorem State.a_writeWord (s : State) (addr v : Word) : (s.writeWord addr v).a = s.a := rfl
@[simp] theorem State.b_writeWord (s : State) (addr v : Word) : (s.writeWord addr v).b = s.b := rfl
@[simp] theorem State.c_writeWord (s : State) (addr v : Word) : (s.writeWord addr v).c = s.c := rfl
@[simp] theorem State.d_writeWord (s : State) (addr v : Word) : (s.writeWord addr v).d = s.d := rfl
@[simp] theorem State.e_writeWord (s : State) (addr v : Word) : (s.writeWord addr v).e = s.e := rfl
@[simp] theorem State.h_writeWord (s : State) (addr v : Word) : (s.writeWord addr v).h = s.h := rfl
@[simp] theorem State.l_writeWord (s : State) (addr v : Word) : (s.writeWord addr v).l = s.l := rfl
@[simp] theorem State.sp_writeWord (s : State) (addr v : Word) : (s.writeWord addr v).sp = s.sp := rfl
@[simp] theorem State.pc_writeWord (s : State) (addr v : Word) : (s.writeWord addr v).pc = s.pc := rfl
@[simp] theorem State.flags_writeWord (s : State) (addr v : Word) : (s.writeWord addr v).flags = s.flags := rfl
@[simp] theorem State.halted_writeWord (s : State) (addr v : Word) : (s.writeWord addr v).halted = s.halted := rfl
@[simp] theorem State.interruptEnabled_writeWord (s : State) (addr v : Word) : (s.writeWord addr v).interruptEnabled = s.interruptEnabled := rfl
@[simp] theorem State.bank_writeWord (s : State) (addr v : Word) : (s.writeWord addr v).bank = s.bank := rfl
@[simp] theorem State.readSlot_writeWord (s : State) (addr v : Word) : (s.writeWord addr v).readSlot = s.readSlot := rfl
@[simp] theorem State.writeSlot_writeWord (s : State) (addr v : Word) : (s.writeWord addr v).writeSlot = s.writeSlot := rfl
@[simp] theorem State.inputCount_writeWord (s : State) (addr v : Word) : (s.writeWord addr v).inputCount = s.inputCount := rfl
@[simp] theorem State.events_writeWord (s : State) (addr v : Word) : (s.writeWord addr v).events = s.events := rfl

/-! ## Operand forms -/

/-- What a location reads as (R89). -/
theorem State.readLoc_eq (s : State) (k : Loc) :
    (∃ r, k = .reg r ∧ s.readLoc k = s.getReg r) ∨ (k = .M ∧ s.readLoc k = s.readByte (s.getPair .HL)) := by
  cases k with
  | reg r => exact .inl ⟨r, rfl, rfl⟩
  | M => exact .inr ⟨rfl, rfl⟩

@[simp] theorem State.readLoc_reg (s : State) (r : Reg) : s.readLoc (.reg r) = s.getReg r := rfl
@[simp] theorem State.readLoc_M (s : State) : s.readLoc .M = s.readByte (s.getPair .HL) := rfl
@[simp] theorem State.writeLoc_reg (s : State) (r : Reg) (v : Byte) : s.writeLoc (.reg r) v = s.setReg r v := rfl
@[simp] theorem State.writeLoc_M (s : State) (v : Byte) : s.writeLoc .M v = s.writeByte (s.getPair .HL) v := rfl
@[simp] theorem State.readRp_pair (s : State) (p : Pair) : s.readRp (.pair p) = s.getPair p := rfl
@[simp] theorem State.readRp_SP (s : State) : s.readRp .SP = s.sp := rfl
@[simp] theorem State.writeRp_pair (s : State) (p : Pair) (v : Word) : s.writeRp (.pair p) v = s.setPair p v := rfl
@[simp] theorem State.writeRp_SP (s : State) (v : Word) : s.writeRp .SP v = s.setSp v := rfl

@[simp] theorem State.sp_writeLoc (s : State) (k : Loc) (v : Byte) : (s.writeLoc k v).sp = s.sp := by cases k <;> simp
@[simp] theorem State.pc_writeLoc (s : State) (k : Loc) (v : Byte) : (s.writeLoc k v).pc = s.pc := by cases k <;> simp
@[simp] theorem State.flags_writeLoc (s : State) (k : Loc) (v : Byte) : (s.writeLoc k v).flags = s.flags := by cases k <;> simp
@[simp] theorem State.halted_writeLoc (s : State) (k : Loc) (v : Byte) : (s.writeLoc k v).halted = s.halted := by cases k <;> simp
@[simp] theorem State.interruptEnabled_writeLoc (s : State) (k : Loc) (v : Byte) : (s.writeLoc k v).interruptEnabled = s.interruptEnabled := by cases k <;> simp
@[simp] theorem State.bank_writeLoc (s : State) (k : Loc) (v : Byte) : (s.writeLoc k v).bank = s.bank := by cases k <;> simp
@[simp] theorem State.readSlot_writeLoc (s : State) (k : Loc) (v : Byte) : (s.writeLoc k v).readSlot = s.readSlot := by cases k <;> simp
@[simp] theorem State.writeSlot_writeLoc (s : State) (k : Loc) (v : Byte) : (s.writeLoc k v).writeSlot = s.writeSlot := by cases k <;> simp
@[simp] theorem State.inputCount_writeLoc (s : State) (k : Loc) (v : Byte) : (s.writeLoc k v).inputCount = s.inputCount := by cases k <;> simp
@[simp] theorem State.events_writeLoc (s : State) (k : Loc) (v : Byte) : (s.writeLoc k v).events = s.events := by cases k <;> simp

@[simp] theorem State.pc_writeRp (s : State) (rp : RegPair) (v : Word) : (s.writeRp rp v).pc = s.pc := by cases rp <;> simp
@[simp] theorem State.flags_writeRp (s : State) (rp : RegPair) (v : Word) : (s.writeRp rp v).flags = s.flags := by cases rp <;> simp
@[simp] theorem State.halted_writeRp (s : State) (rp : RegPair) (v : Word) : (s.writeRp rp v).halted = s.halted := by cases rp <;> simp
@[simp] theorem State.interruptEnabled_writeRp (s : State) (rp : RegPair) (v : Word) : (s.writeRp rp v).interruptEnabled = s.interruptEnabled := by cases rp <;> simp
@[simp] theorem State.bank_writeRp (s : State) (rp : RegPair) (v : Word) : (s.writeRp rp v).bank = s.bank := by cases rp <;> simp
@[simp] theorem State.mem_writeRp (s : State) (rp : RegPair) (v : Word) : (s.writeRp rp v).mem = s.mem := by cases rp <;> simp
@[simp] theorem State.readSlot_writeRp (s : State) (rp : RegPair) (v : Word) : (s.writeRp rp v).readSlot = s.readSlot := by cases rp <;> simp
@[simp] theorem State.writeSlot_writeRp (s : State) (rp : RegPair) (v : Word) : (s.writeRp rp v).writeSlot = s.writeSlot := by cases rp <;> simp
@[simp] theorem State.inputCount_writeRp (s : State) (rp : RegPair) (v : Word) : (s.writeRp rp v).inputCount = s.inputCount := by cases rp <;> simp
@[simp] theorem State.events_writeRp (s : State) (rp : RegPair) (v : Word) : (s.writeRp rp v).events = s.events := by cases rp <;> simp

/-- A pair reads back as written (R22, R23). -/
@[simp] theorem State.getPair_setPair (s : State) (p : Pair) (v : Word) : (s.setPair p v).getPair p = v := by
  cases p <;> exact joinBytes_hi_lo v

/-- A location write keeps the canonical form of memory. -/
theorem State.wf_writeLoc {s : State} (hs : s.wf = true) (k : Loc) (v : Byte) : (s.writeLoc k v).wf = true := by
  cases k with
  | reg r => exact (State.wf_congr (State.mem_setReg s r v)).trans hs
  | M => exact State.wf_writeByte hs _ _

/-! ## The stack -/

/-- `push16` is two stores and a lower stack pointer (R270). -/
theorem State.push16_eq (s : State) (v : Word) :
    s.push16 v = ((s.writeByte (s.sp - 1) (hiByte v)).writeByte (s.sp - 2) (loByte v)).setSp (s.sp - 2) := by
  have h : s.sp - 1 - 1 = s.sp - 2 := by rw [BitVec.sub_sub]; rfl
  simp only [State.push16, State.sp_setSp, State.sp_writeByte, h]
  rfl

/-- `pop16` is a read of the word at the stack pointer and a higher stack pointer (R271). -/
theorem State.pop16_eq (s : State) : s.pop16 = (s.readWord s.sp, s.setSp (s.sp + 2)) := by
  have h : s.sp + 1 + 1 = s.sp + 2 := by rw [BitVec.add_assoc]; rfl
  simp only [State.pop16, State.sp_setSp, h]
  rfl

/-- Every byte after a push (R270). -/
theorem State.readBank_push16 {s : State} (hs : s.wf = true) (v : Word) (bk : Fin 8) (x : Word) :
    (s.push16 v).readBank bk x =
      if bk = s.bank ∧ x = s.sp - 2 then loByte v
      else if bk = s.bank ∧ x = s.sp - 1 then hiByte v
      else s.readBank bk x := by
  rw [State.push16_eq, State.readBank_setSp, State.readBank_writeByte (State.wf_writeByte hs _ _),
    State.readBank_writeByte hs]
  rfl

/-- The two bytes a push writes, read in the active bank (R270). -/
theorem State.readByte_push16 {s : State} (hs : s.wf = true) (v x : Word) :
    (s.push16 v).readByte x =
      if x = s.sp - 2 then loByte v else if x = s.sp - 1 then hiByte v else s.readByte x := by
  have h := State.readBank_push16 hs v s.bank x
  simp only [true_and] at h
  exact h

theorem State.wf_push16 {s : State} (hs : s.wf = true) (v : Word) : (s.push16 v).wf = true := by
  rw [State.push16_eq, State.wf_congr (State.mem_setSp _ _)]
  exact State.wf_writeByte (State.wf_writeByte hs _ _) _ _

/-- A push changes nothing but the stack pointer and the memory. -/
theorem State.push16_frame (s : State) (v : Word) :
    s.push16 v = { s with sp := s.sp - 2, mem := (s.push16 v).mem } := by
  rw [State.push16_eq]
  rfl

@[simp] theorem State.sp_push16 (s : State) (v : Word) : (s.push16 v).sp = s.sp - 2 := by rw [State.push16_eq]; rfl
@[simp] theorem State.a_push16 (s : State) (v : Word) : (s.push16 v).a = s.a := by rw [State.push16_eq]; rfl
@[simp] theorem State.b_push16 (s : State) (v : Word) : (s.push16 v).b = s.b := by rw [State.push16_eq]; rfl
@[simp] theorem State.c_push16 (s : State) (v : Word) : (s.push16 v).c = s.c := by rw [State.push16_eq]; rfl
@[simp] theorem State.d_push16 (s : State) (v : Word) : (s.push16 v).d = s.d := by rw [State.push16_eq]; rfl
@[simp] theorem State.e_push16 (s : State) (v : Word) : (s.push16 v).e = s.e := by rw [State.push16_eq]; rfl
@[simp] theorem State.h_push16 (s : State) (v : Word) : (s.push16 v).h = s.h := by rw [State.push16_eq]; rfl
@[simp] theorem State.l_push16 (s : State) (v : Word) : (s.push16 v).l = s.l := by rw [State.push16_eq]; rfl
@[simp] theorem State.pc_push16 (s : State) (v : Word) : (s.push16 v).pc = s.pc := by rw [State.push16_eq]; rfl
@[simp] theorem State.flags_push16 (s : State) (v : Word) : (s.push16 v).flags = s.flags := by rw [State.push16_eq]; rfl
@[simp] theorem State.halted_push16 (s : State) (v : Word) : (s.push16 v).halted = s.halted := by rw [State.push16_eq]; rfl
@[simp] theorem State.interruptEnabled_push16 (s : State) (v : Word) : (s.push16 v).interruptEnabled = s.interruptEnabled := by rw [State.push16_eq]; rfl
@[simp] theorem State.bank_push16 (s : State) (v : Word) : (s.push16 v).bank = s.bank := by rw [State.push16_eq]; rfl
@[simp] theorem State.readSlot_push16 (s : State) (v : Word) : (s.push16 v).readSlot = s.readSlot := by rw [State.push16_eq]; rfl
@[simp] theorem State.writeSlot_push16 (s : State) (v : Word) : (s.push16 v).writeSlot = s.writeSlot := by rw [State.push16_eq]; rfl
@[simp] theorem State.inputCount_push16 (s : State) (v : Word) : (s.push16 v).inputCount = s.inputCount := by rw [State.push16_eq]; rfl
@[simp] theorem State.events_push16 (s : State) (v : Word) : (s.push16 v).events = s.events := by rw [State.push16_eq]; rfl

/-! ## The gateway -/

/-- `IoRead` with an empty slot (R303). -/
theorem State.ioRead_of_empty {s : State} (h : s.readSlot = false) (port : Byte) :
    s.ioRead port = (Config.ioFallback, s) := by
  simp [State.ioRead, h]

/-- `IoRead` with a present slot: a draw, counted and recorded (R303). -/
theorem State.ioRead_of_present {s : State} (h : s.readSlot = true) (port : Byte) :
    s.ioRead port =
      (Config.ioReadOracle s.inputCount port,
        s.countInput.record (.input port (Config.ioReadOracle s.inputCount port))) := by
  simp [State.ioRead, h]

/-- `IoWrite` with an empty slot: dropped (R304). -/
theorem State.ioWrite_of_empty {s : State} (h : s.writeSlot = false) (port v : Byte) : s.ioWrite port v = s := by
  simp [State.ioWrite, h]

/-- `IoWrite` with a present slot: recorded (R304). -/
theorem State.ioWrite_of_present {s : State} (h : s.writeSlot = true) (port v : Byte) :
    s.ioWrite port v = s.record (.output port v) := by
  simp [State.ioWrite, h]

/-! ## Fetch and step -/

/-- The state when all bytes of the fetched instruction are fetched: `pc` past them, nothing else changed (R81). -/
theorem State.fetchInstr_snd (s : State) :
    s.fetchInstr.2 = s.setPc (s.pc + BitVec.ofNat 16 (opcodeLength (s.readByte s.pc))) := by
  have h2 : s.pc + 1 + 1 = s.pc + 2 := by rw [BitVec.add_assoc]; rfl
  have h3 : s.pc + 2 + 1 = s.pc + 3 := by rw [BitVec.add_assoc]; rfl
  rcases opcodeLength_cases (s.readByte s.pc) with h | h | h <;>
    simp only [State.fetchInstr, State.fetch8, h, State.pc_setPc, h2, h3] <;> rfl

/-- The fetched instruction, by the bytes at `pc` (R80, R84). -/
theorem State.fetchInstr_fst (s : State) :
    s.fetchInstr.1 =
      decodeBytes (s.readByte s.pc)
        (if opcodeLength (s.readByte s.pc) = 1 then 0 else s.readByte (s.pc + 1))
        (if opcodeLength (s.readByte s.pc) = 3 then s.readByte (s.pc + 2) else 0) := by
  have h2 : s.pc + 1 + 1 = s.pc + 2 := by rw [BitVec.add_assoc]; rfl
  rcases opcodeLength_cases (s.readByte s.pc) with h | h | h <;>
    simp only [State.fetchInstr, State.fetch8, h, State.pc_setPc, State.readByte_setPc, h2] <;> rfl

/-- A step of a halted engine (R80). -/
theorem step_of_halted {s : State} (h : s.halted = true) : step s = .next s := by
  simp [step, h]

/-- A step of a running engine (R80). -/
theorem step_of_running {s : State} (h : s.halted = false) : step s = exec s.fetchInstr.1 s.fetchInstr.2 := by
  simp [step, h]

end Sys2Proof.Machine
end

