-- ==== Sys2Proof/Laws/Exec.lean ====
section
/-! SUPPORT. Laws/Exec.lean: what exec does with each form of instruction, and that every instruction has one of the forms.
A proof over all instructions goes by `Instr.byForm` and never splits into 256 cases. -/

namespace Sys2Proof

/-- A property of every form holds of every instruction (the opcode map, R94). -/
theorem Instr.byForm {P : Instr → Prop}
    (mov : ∀ d k, ¬(d = Loc.M ∧ k = Loc.M) → P (movInstr d k))
    (mvi : ∀ d v, P (mviInstr d v))
    (lxi : ∀ rp v, P (lxiInstr rp v))
    (ldax : ∀ rp, P (ldaxInstr rp))
    (stax : ∀ rp, P (staxInstr rp))
    (alu : ∀ op k, P (aluInstr op k))
    (aluImm : ∀ op v, P (aluImmInstr op v))
    (inr : ∀ k, P (inrInstr k))
    (dcr : ∀ k, P (dcrInstr k))
    (inx : ∀ rp, P (inxInstr rp))
    (dcx : ∀ rp, P (dcxInstr rp))
    (dad : ∀ rp, P (dadInstr rp))
    (push : ∀ rp, P (pushInstr rp))
    (pop : ∀ rp, P (popInstr rp))
    (jcc : ∀ c v, P (jccInstr c v))
    (ccc : ∀ c v, P (cccInstr c v))
    (rcc : ∀ c, P (rccInstr c))
    (rst : ∀ n, P (rstInstr n))
    (undocumented : ∀ i ∈ undocumentedInstrs, P i)
    (nop : P .nop)
    (rlc : P .rlc)
    (rrc : P .rrc)
    (ral : P .ral)
    (rar : P .rar)
    (rim : P .rim)
    (shld : ∀ v, P (.shld v))
    (daa : P .daa)
    (lhld : ∀ v, P (.lhld v))
    (cma : P .cma)
    (sim : P .sim)
    (sta : ∀ v, P (.sta v))
    (stc : P .stc)
    (lda : ∀ v, P (.lda v))
    (cmc : P .cmc)
    (hlt : P .hlt)
    (jmp : ∀ v, P (.jmp v))
    (ret : P .ret)
    (call : ∀ v, P (.call v))
    (outPort : ∀ v, P (.outPort v))
    (inPort : ∀ v, P (.inPort v))
    (xthl : P .xthl)
    (pchl : P .pchl)
    (xchg : P .xchg)
    (di : P .di)
    (sphl : P .sphl)
    (ei : P .ei)
    (i : Instr) : P i := by
  cases i with
  | nop => exact nop 
  | lxi_B v => exact lxi (.pair .BC) v
  | stax_B => exact stax .BC
  | inx_B => exact inx (.pair .BC)
  | inr_B => exact inr (.reg .B)
  | dcr_B => exact dcr (.reg .B)
  | mvi_B v => exact mvi (.reg .B) v
  | rlc => exact rlc 
  | nop_08 => exact undocumented _ (by decide)
  | dad_B => exact dad (.pair .BC)
  | ldax_B => exact ldax .BC
  | dcx_B => exact dcx (.pair .BC)
  | inr_C => exact inr (.reg .C)
  | dcr_C => exact dcr (.reg .C)
  | mvi_C v => exact mvi (.reg .C) v
  | rrc => exact rrc 
  | nop_10 => exact undocumented _ (by decide)
  | lxi_D v => exact lxi (.pair .DE) v
  | stax_D => exact stax .DE
  | inx_D => exact inx (.pair .DE)
  | inr_D => exact inr (.reg .D)
  | dcr_D => exact dcr (.reg .D)
  | mvi_D v => exact mvi (.reg .D) v
  | ral => exact ral 
  | nop_18 => exact undocumented _ (by decide)
  | dad_D => exact dad (.pair .DE)
  | ldax_D => exact ldax .DE
  | dcx_D => exact dcx (.pair .DE)
  | inr_E => exact inr (.reg .E)
  | dcr_E => exact dcr (.reg .E)
  | mvi_E v => exact mvi (.reg .E) v
  | rar => exact rar 
  | rim => exact rim 
  | lxi_H v => exact lxi (.pair .HL) v
  | shld v => exact shld v
  | inx_H => exact inx (.pair .HL)
  | inr_H => exact inr (.reg .H)
  | dcr_H => exact dcr (.reg .H)
  | mvi_H v => exact mvi (.reg .H) v
  | daa => exact daa 
  | nop_28 => exact undocumented _ (by decide)
  | dad_H => exact dad (.pair .HL)
  | lhld v => exact lhld v
  | dcx_H => exact dcx (.pair .HL)
  | inr_L => exact inr (.reg .L)
  | dcr_L => exact dcr (.reg .L)
  | mvi_L v => exact mvi (.reg .L) v
  | cma => exact cma 
  | sim => exact sim 
  | lxi_SP v => exact lxi .SP v
  | sta v => exact sta v
  | inx_SP => exact inx .SP
  | inr_M => exact inr .M
  | dcr_M => exact dcr .M
  | mvi_M v => exact mvi .M v
  | stc => exact stc 
  | nop_38 => exact undocumented _ (by decide)
  | dad_SP => exact dad .SP
  | lda v => exact lda v
  | dcx_SP => exact dcx .SP
  | inr_A => exact inr (.reg .A)
  | dcr_A => exact dcr (.reg .A)
  | mvi_A v => exact mvi (.reg .A) v
  | cmc => exact cmc 
  | mov_B_B => exact mov (.reg .B) (.reg .B) (by decide)
  | mov_B_C => exact mov (.reg .B) (.reg .C) (by decide)
  | mov_B_D => exact mov (.reg .B) (.reg .D) (by decide)
  | mov_B_E => exact mov (.reg .B) (.reg .E) (by decide)
  | mov_B_H => exact mov (.reg .B) (.reg .H) (by decide)
  | mov_B_L => exact mov (.reg .B) (.reg .L) (by decide)
  | mov_B_M => exact mov (.reg .B) .M (by decide)
  | mov_B_A => exact mov (.reg .B) (.reg .A) (by decide)
  | mov_C_B => exact mov (.reg .C) (.reg .B) (by decide)
  | mov_C_C => exact mov (.reg .C) (.reg .C) (by decide)
  | mov_C_D => exact mov (.reg .C) (.reg .D) (by decide)
  | mov_C_E => exact mov (.reg .C) (.reg .E) (by decide)
  | mov_C_H => exact mov (.reg .C) (.reg .H) (by decide)
  | mov_C_L => exact mov (.reg .C) (.reg .L) (by decide)
  | mov_C_M => exact mov (.reg .C) .M (by decide)
  | mov_C_A => exact mov (.reg .C) (.reg .A) (by decide)
  | mov_D_B => exact mov (.reg .D) (.reg .B) (by decide)
  | mov_D_C => exact mov (.reg .D) (.reg .C) (by decide)
  | mov_D_D => exact mov (.reg .D) (.reg .D) (by decide)
  | mov_D_E => exact mov (.reg .D) (.reg .E) (by decide)
  | mov_D_H => exact mov (.reg .D) (.reg .H) (by decide)
  | mov_D_L => exact mov (.reg .D) (.reg .L) (by decide)
  | mov_D_M => exact mov (.reg .D) .M (by decide)
  | mov_D_A => exact mov (.reg .D) (.reg .A) (by decide)
  | mov_E_B => exact mov (.reg .E) (.reg .B) (by decide)
  | mov_E_C => exact mov (.reg .E) (.reg .C) (by decide)
  | mov_E_D => exact mov (.reg .E) (.reg .D) (by decide)
  | mov_E_E => exact mov (.reg .E) (.reg .E) (by decide)
  | mov_E_H => exact mov (.reg .E) (.reg .H) (by decide)
  | mov_E_L => exact mov (.reg .E) (.reg .L) (by decide)
  | mov_E_M => exact mov (.reg .E) .M (by decide)
  | mov_E_A => exact mov (.reg .E) (.reg .A) (by decide)
  | mov_H_B => exact mov (.reg .H) (.reg .B) (by decide)
  | mov_H_C => exact mov (.reg .H) (.reg .C) (by decide)
  | mov_H_D => exact mov (.reg .H) (.reg .D) (by decide)
  | mov_H_E => exact mov (.reg .H) (.reg .E) (by decide)
  | mov_H_H => exact mov (.reg .H) (.reg .H) (by decide)
  | mov_H_L => exact mov (.reg .H) (.reg .L) (by decide)
  | mov_H_M => exact mov (.reg .H) .M (by decide)
  | mov_H_A => exact mov (.reg .H) (.reg .A) (by decide)
  | mov_L_B => exact mov (.reg .L) (.reg .B) (by decide)
  | mov_L_C => exact mov (.reg .L) (.reg .C) (by decide)
  | mov_L_D => exact mov (.reg .L) (.reg .D) (by decide)
  | mov_L_E => exact mov (.reg .L) (.reg .E) (by decide)
  | mov_L_H => exact mov (.reg .L) (.reg .H) (by decide)
  | mov_L_L => exact mov (.reg .L) (.reg .L) (by decide)
  | mov_L_M => exact mov (.reg .L) .M (by decide)
  | mov_L_A => exact mov (.reg .L) (.reg .A) (by decide)
  | mov_M_B => exact mov .M (.reg .B) (by decide)
  | mov_M_C => exact mov .M (.reg .C) (by decide)
  | mov_M_D => exact mov .M (.reg .D) (by decide)
  | mov_M_E => exact mov .M (.reg .E) (by decide)
  | mov_M_H => exact mov .M (.reg .H) (by decide)
  | mov_M_L => exact mov .M (.reg .L) (by decide)
  | hlt => exact hlt 
  | mov_M_A => exact mov .M (.reg .A) (by decide)
  | mov_A_B => exact mov (.reg .A) (.reg .B) (by decide)
  | mov_A_C => exact mov (.reg .A) (.reg .C) (by decide)
  | mov_A_D => exact mov (.reg .A) (.reg .D) (by decide)
  | mov_A_E => exact mov (.reg .A) (.reg .E) (by decide)
  | mov_A_H => exact mov (.reg .A) (.reg .H) (by decide)
  | mov_A_L => exact mov (.reg .A) (.reg .L) (by decide)
  | mov_A_M => exact mov (.reg .A) .M (by decide)
  | mov_A_A => exact mov (.reg .A) (.reg .A) (by decide)
  | add_B => exact alu .ADD (.reg .B)
  | add_C => exact alu .ADD (.reg .C)
  | add_D => exact alu .ADD (.reg .D)
  | add_E => exact alu .ADD (.reg .E)
  | add_H => exact alu .ADD (.reg .H)
  | add_L => exact alu .ADD (.reg .L)
  | add_M => exact alu .ADD .M
  | add_A => exact alu .ADD (.reg .A)
  | adc_B => exact alu .ADC (.reg .B)
  | adc_C => exact alu .ADC (.reg .C)
  | adc_D => exact alu .ADC (.reg .D)
  | adc_E => exact alu .ADC (.reg .E)
  | adc_H => exact alu .ADC (.reg .H)
  | adc_L => exact alu .ADC (.reg .L)
  | adc_M => exact alu .ADC .M
  | adc_A => exact alu .ADC (.reg .A)
  | sub_B => exact alu .SUB (.reg .B)
  | sub_C => exact alu .SUB (.reg .C)
  | sub_D => exact alu .SUB (.reg .D)
  | sub_E => exact alu .SUB (.reg .E)
  | sub_H => exact alu .SUB (.reg .H)
  | sub_L => exact alu .SUB (.reg .L)
  | sub_M => exact alu .SUB .M
  | sub_A => exact alu .SUB (.reg .A)
  | sbb_B => exact alu .SBB (.reg .B)
  | sbb_C => exact alu .SBB (.reg .C)
  | sbb_D => exact alu .SBB (.reg .D)
  | sbb_E => exact alu .SBB (.reg .E)
  | sbb_H => exact alu .SBB (.reg .H)
  | sbb_L => exact alu .SBB (.reg .L)
  | sbb_M => exact alu .SBB .M
  | sbb_A => exact alu .SBB (.reg .A)
  | ana_B => exact alu .ANA (.reg .B)
  | ana_C => exact alu .ANA (.reg .C)
  | ana_D => exact alu .ANA (.reg .D)
  | ana_E => exact alu .ANA (.reg .E)
  | ana_H => exact alu .ANA (.reg .H)
  | ana_L => exact alu .ANA (.reg .L)
  | ana_M => exact alu .ANA .M
  | ana_A => exact alu .ANA (.reg .A)
  | xra_B => exact alu .XRA (.reg .B)
  | xra_C => exact alu .XRA (.reg .C)
  | xra_D => exact alu .XRA (.reg .D)
  | xra_E => exact alu .XRA (.reg .E)
  | xra_H => exact alu .XRA (.reg .H)
  | xra_L => exact alu .XRA (.reg .L)
  | xra_M => exact alu .XRA .M
  | xra_A => exact alu .XRA (.reg .A)
  | ora_B => exact alu .ORA (.reg .B)
  | ora_C => exact alu .ORA (.reg .C)
  | ora_D => exact alu .ORA (.reg .D)
  | ora_E => exact alu .ORA (.reg .E)
  | ora_H => exact alu .ORA (.reg .H)
  | ora_L => exact alu .ORA (.reg .L)
  | ora_M => exact alu .ORA .M
  | ora_A => exact alu .ORA (.reg .A)
  | cmp_B => exact alu .CMP (.reg .B)
  | cmp_C => exact alu .CMP (.reg .C)
  | cmp_D => exact alu .CMP (.reg .D)
  | cmp_E => exact alu .CMP (.reg .E)
  | cmp_H => exact alu .CMP (.reg .H)
  | cmp_L => exact alu .CMP (.reg .L)
  | cmp_M => exact alu .CMP .M
  | cmp_A => exact alu .CMP (.reg .A)
  | rnz => exact rcc .NZ
  | pop_B => exact pop (.pair .BC)
  | jnz v => exact jcc .NZ v
  | jmp v => exact jmp v
  | cnz v => exact ccc .NZ v
  | push_B => exact push (.pair .BC)
  | adi v => exact aluImm .ADD v
  | rst_0 => exact rst 0
  | rz => exact rcc .Z
  | ret => exact ret 
  | jz v => exact jcc .Z v
  | nop_CB => exact undocumented _ (by decide)
  | cz v => exact ccc .Z v
  | call v => exact call v
  | aci v => exact aluImm .ADC v
  | rst_1 => exact rst 1
  | rnc => exact rcc .NC
  | pop_D => exact pop (.pair .DE)
  | jnc v => exact jcc .NC v
  | outPort v => exact outPort v
  | cnc v => exact ccc .NC v
  | push_D => exact push (.pair .DE)
  | sui v => exact aluImm .SUB v
  | rst_2 => exact rst 2
  | rc => exact rcc .C
  | nop_D9 => exact undocumented _ (by decide)
  | jc v => exact jcc .C v
  | inPort v => exact inPort v
  | cc v => exact ccc .C v
  | nop_DD => exact undocumented _ (by decide)
  | sbi v => exact aluImm .SBB v
  | rst_3 => exact rst 3
  | rpo => exact rcc .PO
  | pop_H => exact pop (.pair .HL)
  | jpo v => exact jcc .PO v
  | xthl => exact xthl 
  | cpo v => exact ccc .PO v
  | push_H => exact push (.pair .HL)
  | ani v => exact aluImm .ANA v
  | rst_4 => exact rst 4
  | rpe => exact rcc .PE
  | pchl => exact pchl 
  | jpe v => exact jcc .PE v
  | xchg => exact xchg 
  | cpe v => exact ccc .PE v
  | nop_ED => exact undocumented _ (by decide)
  | xri v => exact aluImm .XRA v
  | rst_5 => exact rst 5
  | rp => exact rcc .P
  | pop_PSW => exact pop .PSW
  | jp v => exact jcc .P v
  | di => exact di 
  | cp v => exact ccc .P v
  | push_PSW => exact push .PSW
  | ori v => exact aluImm .ORA v
  | rst_6 => exact rst 6
  | rm => exact rcc .M
  | sphl => exact sphl 
  | jm v => exact jcc .M v
  | ei => exact ei 
  | cm v => exact ccc .M v
  | nop_FD => exact undocumented _ (by decide)
  | cpi v => exact aluImm .CMP v
  | rst_7 => exact rst 7

end Sys2Proof

namespace Sys2Proof.Machine

open Sys2Proof

/-! ## What exec does with each form -/

theorem exec_mov (d k : Loc) (h : ¬(d = .M ∧ k = .M)) (s : State) : exec (movInstr d k) s = movOp d k s := by
  rcases d with (_ | _ | _ | _ | _ | _ | _) | _ <;> rcases k with (_ | _ | _ | _ | _ | _ | _) | _ <;>
    first | rfl | exact absurd ⟨rfl, rfl⟩ h

theorem exec_mvi (d : Loc) (v : Byte) (s : State) : exec (mviInstr d v) s = mviOp d v s := by
  rcases d with (_ | _ | _ | _ | _ | _ | _) | _ <;> rfl

theorem exec_lxi (rp : RegPair) (v : Word) (s : State) : exec (lxiInstr rp v) s = lxiOp rp v s := by
  rcases rp with (_ | _ | _) | _ <;> rfl

theorem exec_ldax (rp : IndPair) (s : State) : exec (ldaxInstr rp) s = ldaxOp rp s := by cases rp <;> rfl

theorem exec_stax (rp : IndPair) (s : State) : exec (staxInstr rp) s = staxOp rp s := by cases rp <;> rfl

/-- The eight operations of A and an operand, by the operation (R170 to R173, R200 to R203). -/
theorem exec_alu (op : AluOp) (k : Loc) (s : State) :
    exec (aluInstr op k) s =
      match op with
      | .ADD => .next (accAdd (s.readLoc k) false s)
      | .ADC => .next (accAdd (s.readLoc k) true s)
      | .SUB => .next (accSub (s.readLoc k) false s)
      | .SBB => .next (accSub (s.readLoc k) true s)
      | .ANA => .next (accAnd (s.readLoc k) s)
      | .XRA => .next (accXor (s.readLoc k) s)
      | .ORA => .next (accOr (s.readLoc k) s)
      | .CMP => .next (accCmp (s.readLoc k) s) := by
  cases op <;> rcases k with (_ | _ | _ | _ | _ | _ | _) | _ <;> rfl

/-- The eight operations of A and a byte, by the operation (R174 to R177, R204 to R207). -/
theorem exec_aluImm (op : AluOp) (v : Byte) (s : State) :
    exec (aluImmInstr op v) s =
      match op with
      | .ADD => .next (accAdd v false s)
      | .ADC => .next (accAdd v true s)
      | .SUB => .next (accSub v false s)
      | .SBB => .next (accSub v true s)
      | .ANA => .next (accAnd v s)
      | .XRA => .next (accXor v s)
      | .ORA => .next (accOr v s)
      | .CMP => .next (accCmp v s) := by
  cases op <;> rfl

theorem exec_inr (k : Loc) (s : State) : exec (inrInstr k) s = inrOp k s := by
  rcases k with (_ | _ | _ | _ | _ | _ | _) | _ <;> rfl

theorem exec_dcr (k : Loc) (s : State) : exec (dcrInstr k) s = dcrOp k s := by
  rcases k with (_ | _ | _ | _ | _ | _ | _) | _ <;> rfl

theorem exec_inx (rp : RegPair) (s : State) : exec (inxInstr rp) s = inxOp rp s := by
  rcases rp with (_ | _ | _) | _ <;> rfl

theorem exec_dcx (rp : RegPair) (s : State) : exec (dcxInstr rp) s = dcxOp rp s := by
  rcases rp with (_ | _ | _) | _ <;> rfl

theorem exec_dad (rp : RegPair) (s : State) : exec (dadInstr rp) s = dadOp rp s := by
  rcases rp with (_ | _ | _) | _ <;> rfl

theorem exec_push (p : Pair) (s : State) : exec (pushInstr (.pair p)) s = pushOp p s := by cases p <;> rfl

theorem exec_pop (p : Pair) (s : State) : exec (popInstr (.pair p)) s = popOp p s := by cases p <;> rfl

theorem exec_jcc (c : Cond) (a : Word) (s : State) : exec (jccInstr c a) s = jumpIfOp c a s := by cases c <;> rfl

theorem exec_ccc (c : Cond) (a : Word) (s : State) : exec (cccInstr c a) s = callIfOp c a s := by cases c <;> rfl

theorem exec_rcc (c : Cond) (s : State) : exec (rccInstr c) s = retIfOp c s := by cases c <;> rfl

theorem exec_rst (n : BitVec 3) (s : State) : exec (rstInstr n) s = rstOp n s := by
  have h : ∀ n : Fin 8, exec (rstInstr (BitVec.ofFin n)) s = rstOp (BitVec.ofFin n) s := by
    intro n
    fin_cases n <;> rfl
  exact h n.toFin

theorem exec_undocumented {i : Instr} (h : i ∈ undocumentedInstrs) (s : State) : exec i s = nopOp s := by
  simp only [undocumentedInstrs, List.mem_cons, List.not_mem_nil, or_false] at h
  rcases h with h | h | h | h | h | h | h | h | h | h <;> subst h <;> rfl

/-! ## Taken and not taken -/

/-- Taken (R232). -/
theorem jumpIfOp_of_holds {c : Cond} {s : State} (h : condHolds c s.flags = true) (a : Word) :
    jumpIfOp c a s = jumpOp a s := by
  simp [jumpIfOp, h]

/-- Not taken (R232). -/
theorem jumpIfOp_of_not_holds {c : Cond} {s : State} (h : condHolds c s.flags = false) (a : Word) :
    jumpIfOp c a s = .next s := by
  simp [jumpIfOp, h]

/-- Taken (R242). -/
theorem callIfOp_of_holds {c : Cond} {s : State} (h : condHolds c s.flags = true) (a : Word) :
    callIfOp c a s = callOp a s := by
  simp [callIfOp, h]

/-- Not taken (R242). -/
theorem callIfOp_of_not_holds {c : Cond} {s : State} (h : condHolds c s.flags = false) (a : Word) :
    callIfOp c a s = .next s := by
  simp [callIfOp, h]

/-- Taken (R252). -/
theorem retIfOp_of_holds {c : Cond} {s : State} (h : condHolds c s.flags = true) : retIfOp c s = retOp s := by
  simp [retIfOp, h]

/-- Not taken (R252). -/
theorem retIfOp_of_not_holds {c : Cond} {s : State} (h : condHolds c s.flags = false) : retIfOp c s = .next s := by
  simp [retIfOp, h]

/-- OUT to the bank port (R286). -/
theorem outOp_bankPort (s : State) :
    outOp 254 s = .next ((s.setBank (bankOfA s)).record (.bankSelect (bankOfA s))) := rfl

/-- OUT to another port (R286, R304). -/
theorem outOp_of_ne {port : Byte} (h : port ≠ 254) (s : State) : outOp port s = .next (s.ioWrite port s.a) := by
  exact if_neg h

end Sys2Proof.Machine
end

