-- ==== Sys2Proof/Laws/Flags.lean ====
section
/-! SUPPORT. Laws/Flags.lean: what the flag and ALU functions do (40_alu.md). -/

namespace Sys2Proof.Machine

/-! ## Flag derivation -/

/-- The sign flag's bit is the most significant one (R27). -/
theorem getLsbD_seven (r : Byte) : r.getLsbD 7 = r.msb := by
  simp [BitVec.msb, BitVec.getMsbD]

@[simp] theorem Flags.arithmetic_s (f : Flags) (r : Byte) : (f.arithmetic r).s = r.msb := getLsbD_seven r
@[simp] theorem Flags.arithmetic_z (f : Flags) (r : Byte) : (f.arithmetic r).z = (r == 0) := rfl
@[simp] theorem Flags.arithmetic_p (f : Flags) (r : Byte) : (f.arithmetic r).p = parity r := rfl
@[simp] theorem Flags.arithmetic_ac (f : Flags) (r : Byte) : (f.arithmetic r).ac = f.ac := rfl
@[simp] theorem Flags.arithmetic_cy (f : Flags) (r : Byte) : (f.arithmetic r).cy = f.cy := rfl
@[simp] theorem Flags.logical_s (f : Flags) (r : Byte) : (f.logical r).s = r.msb := getLsbD_seven r
@[simp] theorem Flags.logical_z (f : Flags) (r : Byte) : (f.logical r).z = (r == 0) := rfl
@[simp] theorem Flags.logical_p (f : Flags) (r : Byte) : (f.logical r).p = parity r := rfl
@[simp] theorem Flags.logical_ac (f : Flags) (r : Byte) : (f.logical r).ac = false := rfl
@[simp] theorem Flags.logical_cy (f : Flags) (r : Byte) : (f.logical r).cy = false := rfl

/-! ## The ALU functions -/

/-- The flags after `add`, by its result (R110, R116). -/
theorem aluAdd_flags (acc v : Byte) (w : Bool) (f : Flags) :
    (aluAdd acc v w f).2.s = (aluAdd acc v w f).1.msb ∧
    (aluAdd acc v w f).2.z = ((aluAdd acc v w f).1 == 0) ∧
    (aluAdd acc v w f).2.p = parity (aluAdd acc v w f).1 ∧
    (aluAdd acc v w f).2.cy = decide (0xFF < acc.toNat + v.toNat + bit (w && f.cy)) ∧
    (aluAdd acc v w f).2.ac
      = decide (0x0F < lowNibble acc + lowNibble v + bit (w && (aluAdd acc v w f).2.cy)) :=
  ⟨getLsbD_seven _, rfl, rfl, rfl, rfl⟩

/-- The result of `add` (R110). -/
theorem aluAdd_toNat (acc v : Byte) (w : Bool) (f : Flags) :
    (aluAdd acc v w f).1.toNat = (acc.toNat + v.toNat + bit (w && f.cy)) % 256 := by
  simp [aluAdd]

/-- The flags after `sub`, by its result (R111, R116). -/
theorem aluSub_flags (acc v : Byte) (w : Bool) (f : Flags) :
    (aluSub acc v w f).2.s = (aluSub acc v w f).1.msb ∧
    (aluSub acc v w f).2.z = ((aluSub acc v w f).1 == 0) ∧
    (aluSub acc v w f).2.p = parity (aluSub acc v w f).1 ∧
    (aluSub acc v w f).2.cy = decide ((acc.toNat : Int) - v.toNat - bit (w && f.cy) < 0) ∧
    (aluSub acc v w f).2.ac
      = decide ((lowNibble acc : Int) - lowNibble v - bit (w && (aluSub acc v w f).2.cy) < 0) :=
  ⟨getLsbD_seven _, rfl, rfl, rfl, rfl⟩

/-- The result of `sub` (R111). -/
theorem aluSub_toNat (acc v : Byte) (w : Bool) (f : Flags) :
    ((aluSub acc v w f).1.toNat : Int) = ((acc.toNat : Int) - v.toNat - bit (w && f.cy)) % 256 := by
  simp [aluSub, Int.emod_nonneg]

/-- The flags after `daa`, by its result (R117). -/
theorem aluDaa_flags (acc : Byte) (f : Flags) :
    (aluDaa acc f).2.s = (aluDaa acc f).1.msb ∧
    (aluDaa acc f).2.z = ((aluDaa acc f).1 == 0) ∧
    (aluDaa acc f).2.p = parity (aluDaa acc f).1 :=
  ⟨getLsbD_seven _, rfl, rfl⟩

end Sys2Proof.Machine
end

