-- ==== Sys2Proof/Laws/PerInstr.lean ====
section
/-! SUPPORT. Laws/PerInstr.lean: one fact of each instruction as syntax: its encoding has as many bytes as its opcode says
(R85). -/

/-- An instruction's encoding has as many bytes as its first byte says (R85). -/
def Sys2Proof.Laws.EncodedLength.Statement (i : Sys2Proof.Instr) : Prop :=
  (Sys2Proof.encode i).length = Sys2Proof.opcodeLength ((Sys2Proof.encode i).headD 0)

namespace Sys2Proof.Laws.EncodedLength

theorem nop : Statement .nop := rfl
theorem lxi_B (v : Sys2Proof.Word) : Statement (.lxi_B v) := rfl
theorem stax_B : Statement .stax_B := rfl
theorem inx_B : Statement .inx_B := rfl
theorem inr_B : Statement .inr_B := rfl
theorem dcr_B : Statement .dcr_B := rfl
theorem mvi_B (v : Sys2Proof.Byte) : Statement (.mvi_B v) := rfl
theorem rlc : Statement .rlc := rfl
theorem nop_08 : Statement .nop_08 := rfl
theorem dad_B : Statement .dad_B := rfl
theorem ldax_B : Statement .ldax_B := rfl
theorem dcx_B : Statement .dcx_B := rfl
theorem inr_C : Statement .inr_C := rfl
theorem dcr_C : Statement .dcr_C := rfl
theorem mvi_C (v : Sys2Proof.Byte) : Statement (.mvi_C v) := rfl
theorem rrc : Statement .rrc := rfl
theorem nop_10 : Statement .nop_10 := rfl
theorem lxi_D (v : Sys2Proof.Word) : Statement (.lxi_D v) := rfl
theorem stax_D : Statement .stax_D := rfl
theorem inx_D : Statement .inx_D := rfl
theorem inr_D : Statement .inr_D := rfl
theorem dcr_D : Statement .dcr_D := rfl
theorem mvi_D (v : Sys2Proof.Byte) : Statement (.mvi_D v) := rfl
theorem ral : Statement .ral := rfl
theorem nop_18 : Statement .nop_18 := rfl
theorem dad_D : Statement .dad_D := rfl
theorem ldax_D : Statement .ldax_D := rfl
theorem dcx_D : Statement .dcx_D := rfl
theorem inr_E : Statement .inr_E := rfl
theorem dcr_E : Statement .dcr_E := rfl
theorem mvi_E (v : Sys2Proof.Byte) : Statement (.mvi_E v) := rfl
theorem rar : Statement .rar := rfl
theorem rim : Statement .rim := rfl
theorem lxi_H (v : Sys2Proof.Word) : Statement (.lxi_H v) := rfl
theorem shld (v : Sys2Proof.Word) : Statement (.shld v) := rfl
theorem inx_H : Statement .inx_H := rfl
theorem inr_H : Statement .inr_H := rfl
theorem dcr_H : Statement .dcr_H := rfl
theorem mvi_H (v : Sys2Proof.Byte) : Statement (.mvi_H v) := rfl
theorem daa : Statement .daa := rfl
theorem nop_28 : Statement .nop_28 := rfl
theorem dad_H : Statement .dad_H := rfl
theorem lhld (v : Sys2Proof.Word) : Statement (.lhld v) := rfl
theorem dcx_H : Statement .dcx_H := rfl
theorem inr_L : Statement .inr_L := rfl
theorem dcr_L : Statement .dcr_L := rfl
theorem mvi_L (v : Sys2Proof.Byte) : Statement (.mvi_L v) := rfl
theorem cma : Statement .cma := rfl
theorem sim : Statement .sim := rfl
theorem lxi_SP (v : Sys2Proof.Word) : Statement (.lxi_SP v) := rfl
theorem sta (v : Sys2Proof.Word) : Statement (.sta v) := rfl
theorem inx_SP : Statement .inx_SP := rfl
theorem inr_M : Statement .inr_M := rfl
theorem dcr_M : Statement .dcr_M := rfl
theorem mvi_M (v : Sys2Proof.Byte) : Statement (.mvi_M v) := rfl
theorem stc : Statement .stc := rfl
theorem nop_38 : Statement .nop_38 := rfl
theorem dad_SP : Statement .dad_SP := rfl
theorem lda (v : Sys2Proof.Word) : Statement (.lda v) := rfl
theorem dcx_SP : Statement .dcx_SP := rfl
theorem inr_A : Statement .inr_A := rfl
theorem dcr_A : Statement .dcr_A := rfl
theorem mvi_A (v : Sys2Proof.Byte) : Statement (.mvi_A v) := rfl
theorem cmc : Statement .cmc := rfl
theorem mov_B_B : Statement .mov_B_B := rfl
theorem mov_B_C : Statement .mov_B_C := rfl
theorem mov_B_D : Statement .mov_B_D := rfl
theorem mov_B_E : Statement .mov_B_E := rfl
theorem mov_B_H : Statement .mov_B_H := rfl
theorem mov_B_L : Statement .mov_B_L := rfl
theorem mov_B_M : Statement .mov_B_M := rfl
theorem mov_B_A : Statement .mov_B_A := rfl
theorem mov_C_B : Statement .mov_C_B := rfl
theorem mov_C_C : Statement .mov_C_C := rfl
theorem mov_C_D : Statement .mov_C_D := rfl
theorem mov_C_E : Statement .mov_C_E := rfl
theorem mov_C_H : Statement .mov_C_H := rfl
theorem mov_C_L : Statement .mov_C_L := rfl
theorem mov_C_M : Statement .mov_C_M := rfl
theorem mov_C_A : Statement .mov_C_A := rfl
theorem mov_D_B : Statement .mov_D_B := rfl
theorem mov_D_C : Statement .mov_D_C := rfl
theorem mov_D_D : Statement .mov_D_D := rfl
theorem mov_D_E : Statement .mov_D_E := rfl
theorem mov_D_H : Statement .mov_D_H := rfl
theorem mov_D_L : Statement .mov_D_L := rfl
theorem mov_D_M : Statement .mov_D_M := rfl
theorem mov_D_A : Statement .mov_D_A := rfl
theorem mov_E_B : Statement .mov_E_B := rfl
theorem mov_E_C : Statement .mov_E_C := rfl
theorem mov_E_D : Statement .mov_E_D := rfl
theorem mov_E_E : Statement .mov_E_E := rfl
theorem mov_E_H : Statement .mov_E_H := rfl
theorem mov_E_L : Statement .mov_E_L := rfl
theorem mov_E_M : Statement .mov_E_M := rfl
theorem mov_E_A : Statement .mov_E_A := rfl
theorem mov_H_B : Statement .mov_H_B := rfl
theorem mov_H_C : Statement .mov_H_C := rfl
theorem mov_H_D : Statement .mov_H_D := rfl
theorem mov_H_E : Statement .mov_H_E := rfl
theorem mov_H_H : Statement .mov_H_H := rfl
theorem mov_H_L : Statement .mov_H_L := rfl
theorem mov_H_M : Statement .mov_H_M := rfl
theorem mov_H_A : Statement .mov_H_A := rfl
theorem mov_L_B : Statement .mov_L_B := rfl
theorem mov_L_C : Statement .mov_L_C := rfl
theorem mov_L_D : Statement .mov_L_D := rfl
theorem mov_L_E : Statement .mov_L_E := rfl
theorem mov_L_H : Statement .mov_L_H := rfl
theorem mov_L_L : Statement .mov_L_L := rfl
theorem mov_L_M : Statement .mov_L_M := rfl
theorem mov_L_A : Statement .mov_L_A := rfl
theorem mov_M_B : Statement .mov_M_B := rfl
theorem mov_M_C : Statement .mov_M_C := rfl
theorem mov_M_D : Statement .mov_M_D := rfl
theorem mov_M_E : Statement .mov_M_E := rfl
theorem mov_M_H : Statement .mov_M_H := rfl
theorem mov_M_L : Statement .mov_M_L := rfl
theorem hlt : Statement .hlt := rfl
theorem mov_M_A : Statement .mov_M_A := rfl
theorem mov_A_B : Statement .mov_A_B := rfl
theorem mov_A_C : Statement .mov_A_C := rfl
theorem mov_A_D : Statement .mov_A_D := rfl
theorem mov_A_E : Statement .mov_A_E := rfl
theorem mov_A_H : Statement .mov_A_H := rfl
theorem mov_A_L : Statement .mov_A_L := rfl
theorem mov_A_M : Statement .mov_A_M := rfl
theorem mov_A_A : Statement .mov_A_A := rfl
theorem add_B : Statement .add_B := rfl
theorem add_C : Statement .add_C := rfl
theorem add_D : Statement .add_D := rfl
theorem add_E : Statement .add_E := rfl
theorem add_H : Statement .add_H := rfl
theorem add_L : Statement .add_L := rfl
theorem add_M : Statement .add_M := rfl
theorem add_A : Statement .add_A := rfl
theorem adc_B : Statement .adc_B := rfl
theorem adc_C : Statement .adc_C := rfl
theorem adc_D : Statement .adc_D := rfl
theorem adc_E : Statement .adc_E := rfl
theorem adc_H : Statement .adc_H := rfl
theorem adc_L : Statement .adc_L := rfl
theorem adc_M : Statement .adc_M := rfl
theorem adc_A : Statement .adc_A := rfl
theorem sub_B : Statement .sub_B := rfl
theorem sub_C : Statement .sub_C := rfl
theorem sub_D : Statement .sub_D := rfl
theorem sub_E : Statement .sub_E := rfl
theorem sub_H : Statement .sub_H := rfl
theorem sub_L : Statement .sub_L := rfl
theorem sub_M : Statement .sub_M := rfl
theorem sub_A : Statement .sub_A := rfl
theorem sbb_B : Statement .sbb_B := rfl
theorem sbb_C : Statement .sbb_C := rfl
theorem sbb_D : Statement .sbb_D := rfl
theorem sbb_E : Statement .sbb_E := rfl
theorem sbb_H : Statement .sbb_H := rfl
theorem sbb_L : Statement .sbb_L := rfl
theorem sbb_M : Statement .sbb_M := rfl
theorem sbb_A : Statement .sbb_A := rfl
theorem ana_B : Statement .ana_B := rfl
theorem ana_C : Statement .ana_C := rfl
theorem ana_D : Statement .ana_D := rfl
theorem ana_E : Statement .ana_E := rfl
theorem ana_H : Statement .ana_H := rfl
theorem ana_L : Statement .ana_L := rfl
theorem ana_M : Statement .ana_M := rfl
theorem ana_A : Statement .ana_A := rfl
theorem xra_B : Statement .xra_B := rfl
theorem xra_C : Statement .xra_C := rfl
theorem xra_D : Statement .xra_D := rfl
theorem xra_E : Statement .xra_E := rfl
theorem xra_H : Statement .xra_H := rfl
theorem xra_L : Statement .xra_L := rfl
theorem xra_M : Statement .xra_M := rfl
theorem xra_A : Statement .xra_A := rfl
theorem ora_B : Statement .ora_B := rfl
theorem ora_C : Statement .ora_C := rfl
theorem ora_D : Statement .ora_D := rfl
theorem ora_E : Statement .ora_E := rfl
theorem ora_H : Statement .ora_H := rfl
theorem ora_L : Statement .ora_L := rfl
theorem ora_M : Statement .ora_M := rfl
theorem ora_A : Statement .ora_A := rfl
theorem cmp_B : Statement .cmp_B := rfl
theorem cmp_C : Statement .cmp_C := rfl
theorem cmp_D : Statement .cmp_D := rfl
theorem cmp_E : Statement .cmp_E := rfl
theorem cmp_H : Statement .cmp_H := rfl
theorem cmp_L : Statement .cmp_L := rfl
theorem cmp_M : Statement .cmp_M := rfl
theorem cmp_A : Statement .cmp_A := rfl
theorem rnz : Statement .rnz := rfl
theorem pop_B : Statement .pop_B := rfl
theorem jnz (v : Sys2Proof.Word) : Statement (.jnz v) := rfl
theorem jmp (v : Sys2Proof.Word) : Statement (.jmp v) := rfl
theorem cnz (v : Sys2Proof.Word) : Statement (.cnz v) := rfl
theorem push_B : Statement .push_B := rfl
theorem adi (v : Sys2Proof.Byte) : Statement (.adi v) := rfl
theorem rst_0 : Statement .rst_0 := rfl
theorem rz : Statement .rz := rfl
theorem ret : Statement .ret := rfl
theorem jz (v : Sys2Proof.Word) : Statement (.jz v) := rfl
theorem nop_CB : Statement .nop_CB := rfl
theorem cz (v : Sys2Proof.Word) : Statement (.cz v) := rfl
theorem call (v : Sys2Proof.Word) : Statement (.call v) := rfl
theorem aci (v : Sys2Proof.Byte) : Statement (.aci v) := rfl
theorem rst_1 : Statement .rst_1 := rfl
theorem rnc : Statement .rnc := rfl
theorem pop_D : Statement .pop_D := rfl
theorem jnc (v : Sys2Proof.Word) : Statement (.jnc v) := rfl
theorem outPort (v : Sys2Proof.Byte) : Statement (.outPort v) := rfl
theorem cnc (v : Sys2Proof.Word) : Statement (.cnc v) := rfl
theorem push_D : Statement .push_D := rfl
theorem sui (v : Sys2Proof.Byte) : Statement (.sui v) := rfl
theorem rst_2 : Statement .rst_2 := rfl
theorem rc : Statement .rc := rfl
theorem nop_D9 : Statement .nop_D9 := rfl
theorem jc (v : Sys2Proof.Word) : Statement (.jc v) := rfl
theorem inPort (v : Sys2Proof.Byte) : Statement (.inPort v) := rfl
theorem cc (v : Sys2Proof.Word) : Statement (.cc v) := rfl
theorem nop_DD : Statement .nop_DD := rfl
theorem sbi (v : Sys2Proof.Byte) : Statement (.sbi v) := rfl
theorem rst_3 : Statement .rst_3 := rfl
theorem rpo : Statement .rpo := rfl
theorem pop_H : Statement .pop_H := rfl
theorem jpo (v : Sys2Proof.Word) : Statement (.jpo v) := rfl
theorem xthl : Statement .xthl := rfl
theorem cpo (v : Sys2Proof.Word) : Statement (.cpo v) := rfl
theorem push_H : Statement .push_H := rfl
theorem ani (v : Sys2Proof.Byte) : Statement (.ani v) := rfl
theorem rst_4 : Statement .rst_4 := rfl
theorem rpe : Statement .rpe := rfl
theorem pchl : Statement .pchl := rfl
theorem jpe (v : Sys2Proof.Word) : Statement (.jpe v) := rfl
theorem xchg : Statement .xchg := rfl
theorem cpe (v : Sys2Proof.Word) : Statement (.cpe v) := rfl
theorem nop_ED : Statement .nop_ED := rfl
theorem xri (v : Sys2Proof.Byte) : Statement (.xri v) := rfl
theorem rst_5 : Statement .rst_5 := rfl
theorem rp : Statement .rp := rfl
theorem pop_PSW : Statement .pop_PSW := rfl
theorem jp (v : Sys2Proof.Word) : Statement (.jp v) := rfl
theorem di : Statement .di := rfl
theorem cp (v : Sys2Proof.Word) : Statement (.cp v) := rfl
theorem push_PSW : Statement .push_PSW := rfl
theorem ori (v : Sys2Proof.Byte) : Statement (.ori v) := rfl
theorem rst_6 : Statement .rst_6 := rfl
theorem rm : Statement .rm := rfl
theorem sphl : Statement .sphl := rfl
theorem jm (v : Sys2Proof.Word) : Statement (.jm v) := rfl
theorem ei : Statement .ei := rfl
theorem cm (v : Sys2Proof.Word) : Statement (.cm v) := rfl
theorem nop_FD : Statement .nop_FD := rfl
theorem cpi (v : Sys2Proof.Byte) : Statement (.cpi v) := rfl
theorem rst_7 : Statement .rst_7 := rfl

end Sys2Proof.Laws.EncodedLength
end

