-- ==== Sys2Proof/Tests/Slice0.lean ====
section
/-! SUPPORT. Tests/Slice0.lean: the model's own tests. The expected results come from the spec: 95_test_vectors.md (a test named
after its vector), 30_encoding.md for the words. The witnesses show that the hypotheses of each statement can be met. -/

namespace Sys2Proof.Tests

open Machine

/-! ## Helpers -/

/-- Flags from five digits in the order of the vectors: S Z AC P CY. -/
def flagsOf : List Nat → Flags
  | [s, z, ac, p, cy] => { s := s == 1, z := z == 1, ac := ac == 1, p := p == 1, cy := cy == 1 }
  | _ => Flags.clear

/-- The flags as five digits in the order of the vectors. -/
def flagBits (s : State) : List Nat :=
  [s.flags.s.toNat, s.flags.z.toNat, s.flags.ac.toNat, s.flags.p.toNat, s.flags.cy.toNat]

/-- The state an outcome answers, if it answers one. -/
def nextState : Result → Option State
  | .next t => some t
  | .fault _ => none
  | .refused _ => none

/-- Place bytes in the active bank. -/
def place (s : State) : List (Word × Byte) → State
  | [] => s
  | (addr, v) :: rest => place (s.writeByte addr v) rest

/-- What `see` shows after one step from `s` with the bytes in place. -/
def stepped (s : State) (bytes : List (Word × Byte)) (see : State → List Nat) : Option (List Nat) :=
  (nextState (step (place s bytes))).map see

/-- A state with a little in every part, the stack pointer and HL at an end of the address space. -/
def sample : State :=
  { State.reset with
      a := 0x5A, b := 0x12, h := 0xFF, l := 0xFF, sp := 0x0001, pc := 0xFFFE
      flags := { s := false, z := true, ac := false, p := true, cy := true }
      mem := [(0x00000, 0x20), (0x0FFFE, 0xC2), (0x0FFFF, 0x34), (0x7FFFF, 0x99)] }

/-! ## Well-formedness -/

theorem test_wf_refuses_empty : wellFormedBytes [] = false := by decide
theorem test_wf_refuses_missing_byte2 : wellFormedBytes [0x3E] = false := by decide
theorem test_wf_refuses_missing_byte3 : wellFormedBytes [0xC3, 0x00] = false := by decide
theorem test_wf_refuses_extra_byte : wellFormedBytes [0x00, 0x00] = false := by decide
theorem test_wf_of_operand_instruction : (Instr.lxi_H 0xFFFF).wf = true := by decide
theorem test_memory_wf_refuses_disorder : Memory.wf [(2, 0x01), (1, 0x01)] = false := by decide
theorem test_memory_wf_refuses_repeat : Memory.wf [(1, 0x01), (1, 0x02)] = false := by decide
theorem test_memory_wf_refuses_blank : Memory.wf [(1, 0x00)] = false := by decide
theorem test_memory_wf_refuses_outside : Memory.wf [(0x80000, 0x01)] = false := by decide

/-! ## Words written out from the encodings (30_encoding.md R84 to R96) -/

theorem test_word_mov : decode [0b01#2 ++ 0b111#3 ++ 0b000#3] = .ok (.mov_A_B, []) := by decide
theorem test_word_mov_M : decode [0b01#2 ++ 0b110#3 ++ 0b111#3] = .ok (.mov_M_A, []) := by decide
theorem test_word_mvi : decode [0b00#2 ++ 0b001#3 ++ 0b110#3, 0x7F] = .ok (.mvi_C 0x7F, []) := by decide
theorem test_word_lxi : decode [0b00#2 ++ 0b01#2 ++ 0b0001#4, 0x34, 0x12] = .ok (.lxi_D 0x1234, []) := by decide
theorem test_word_lda : decode [0b00111010#8, 0x00, 0x20] = .ok (.lda 0x2000, []) := by decide
theorem test_word_ldax : decode [0b00#2 ++ 0b01#2 ++ 0b1010#4] = .ok (.ldax_D, []) := by decide
theorem test_word_shld : decode [0b00100010#8, 0xFF, 0xFE] = .ok (.shld 0xFEFF, []) := by decide
theorem test_word_alu : decode [0b10#2 ++ 0b011#3 ++ 0b101#3] = .ok (.sbb_L, []) := by decide
theorem test_word_alu_M : decode [0b10#2 ++ 0b111#3 ++ 0b110#3] = .ok (.cmp_M, []) := by decide
theorem test_word_alu_imm : decode [0b11#2 ++ 0b101#3 ++ 0b110#3, 0x81] = .ok (.xri 0x81, []) := by decide
theorem test_word_inr : decode [0b00#2 ++ 0b100#3 ++ 0b100#3] = .ok (.inr_H, []) := by decide
theorem test_word_dcr : decode [0b00#2 ++ 0b010#3 ++ 0b101#3] = .ok (.dcr_D, []) := by decide
theorem test_word_dad : decode [0b00#2 ++ 0b11#2 ++ 0b1001#4] = .ok (.dad_SP, []) := by decide
theorem test_word_dcx : decode [0b00#2 ++ 0b10#2 ++ 0b1011#4] = .ok (.dcx_H, []) := by decide
theorem test_word_rotate : decode [0b00#2 ++ 0b011#3 ++ 0b111#3] = .ok (.rar, []) := by decide
theorem test_word_jcc : decode [0b11#2 ++ 0b101#3 ++ 0b010#3, 0xFF, 0x00] = .ok (.jpe 0x00FF, []) := by decide
theorem test_word_ccc : decode [0b11#2 ++ 0b011#3 ++ 0b100#3, 0x00, 0x01] = .ok (.cc 0x0100, []) := by decide
theorem test_word_rcc : decode [0b11#2 ++ 0b110#3 ++ 0b000#3] = .ok (.rp, []) := by decide
theorem test_word_rst : decode [0b11#2 ++ 0b101#3 ++ 0b111#3] = .ok (.rst_5, []) := by decide
theorem test_word_push : decode [0b11#2 ++ 0b11#2 ++ 0b0101#4] = .ok (.push_PSW, []) := by decide
theorem test_word_pop : decode [0b11#2 ++ 0b00#2 ++ 0b0001#4] = .ok (.pop_B, []) := by decide
theorem test_word_in : decode [0b11011011#8, 0xFE, 0x00] = .ok (.inPort 0xFE, [0x00]) := by decide
theorem test_word_hlt : decode [0b01110110#8] = .ok (.hlt, []) := by decide
theorem test_word_truncated : decode [0xC3, 0x00] = .error (.truncated 0xC3) := by decide
theorem test_table_word : decodeTableWord 8 0x3E = some (.mvi_A 0x00) := by decide
theorem test_table_word_operand : decodeTableWord 24 0x2034C3 = some (.jmp 0x2034) := by decide

/-! ## One step, by the vectors of 95_test_vectors.md -/

theorem test_T1_mov_A_B : stepped ({ State.reset with pc := 0x0100, b := 0x12 })
    [(0x0100, 0x78)]
    (fun t => flagBits t ++ [t.a.toNat, t.pc.toNat]) =
      some ([0, 0, 0, 0, 0] ++ [0x12, 0x0101]) := by decide

theorem test_T4_mov_H_M : stepped ({ State.reset with pc := 0x0100, h := 0x20, l := 0x00 })
    [(0x2000, 0x77), (0x0100, 0x66)]
    (fun t => flagBits t ++ [t.h.toNat, t.pc.toNat]) =
      some ([0, 0, 0, 0, 0] ++ [0x77, 0x0101]) := by decide

theorem test_T6_mov_M_H : stepped ({ State.reset with pc := 0x0100, h := 0x20, l := 0x00 })
    [(0x0100, 0x74)]
    (fun t => flagBits t ++ [t.pc.toNat, (t.readByte 0x2000).toNat]) =
      some ([0, 0, 0, 0, 0] ++ [0x0101, 0x20]) := by decide

theorem test_T8_mvi_B : stepped ({ State.reset with pc := 0xFFFF })
    [(0xFFFF, 0x06), (0x0000, 0x03)]
    (fun t => flagBits t ++ [t.b.toNat, t.pc.toNat]) =
      some ([0, 0, 0, 0, 0] ++ [0x03, 0x0001]) := by decide

theorem test_T9_mvi_M : stepped ({ State.reset with pc := 0x0100, h := 0x30, l := 0x00 })
    [(0x0100, 0x36), (0x0101, 0xAB)]
    (fun t => flagBits t ++ [t.pc.toNat, (t.readByte 0x3000).toNat]) =
      some ([0, 0, 0, 0, 0] ++ [0x0102, 0xAB]) := by decide

theorem test_T10_lxi_H : stepped ({ State.reset with pc := 0x0100 })
    [(0x0100, 0x21), (0x0101, 0x34), (0x0102, 0x12)]
    (fun t => flagBits t ++ [t.h.toNat, t.l.toNat, t.pc.toNat]) =
      some ([0, 0, 0, 0, 0] ++ [0x12, 0x34, 0x0103]) := by decide

theorem test_T12_lda : stepped ({ State.reset with pc := 0x0100 })
    [(0x2000, 0x42), (0x0100, 0x3A), (0x0101, 0x00), (0x0102, 0x20)]
    (fun t => flagBits t ++ [t.a.toNat, t.pc.toNat]) =
      some ([0, 0, 0, 0, 0] ++ [0x42, 0x0103]) := by decide

theorem test_T13_sta : stepped ({ State.reset with pc := 0x0100, a := 0x42 })
    [(0x0100, 0x32), (0x0101, 0x00), (0x0102, 0x20)]
    (fun t => flagBits t ++ [t.pc.toNat, (t.readByte 0x2000).toNat]) =
      some ([0, 0, 0, 0, 0] ++ [0x0103, 0x42]) := by decide

theorem test_T15_lhld : stepped ({ State.reset with pc := 0x0100 })
    [(0xFFFF, 0x34), (0x0000, 0x12), (0x0100, 0x2A), (0x0101, 0xFF), (0x0102, 0xFF)]
    (fun t => flagBits t ++ [t.h.toNat, t.l.toNat, t.pc.toNat]) =
      some ([0, 0, 0, 0, 0] ++ [0x12, 0x34, 0x0103]) := by decide

theorem test_T16_shld : stepped ({ State.reset with pc := 0x0100, h := 0x12, l := 0x34 })
    [(0x0100, 0x22), (0x0101, 0x00), (0x0102, 0x20)]
    (fun t => flagBits t ++ [t.pc.toNat, (t.readByte 0x2000).toNat, (t.readByte 0x2001).toNat]) =
      some ([0, 0, 0, 0, 0] ++ [0x0103, 0x34, 0x12]) := by decide

theorem test_T17_ldax_B : stepped ({ State.reset with pc := 0x0100, b := 0x40, c := 0x00 })
    [(0x4000, 0x07), (0x0100, 0x0A)]
    (fun t => flagBits t ++ [t.a.toNat, t.pc.toNat]) =
      some ([0, 0, 0, 0, 0] ++ [0x07, 0x0101]) := by decide

theorem test_T18_stax_D : stepped ({ State.reset with pc := 0x0100, d := 0x40, e := 0x01, a := 0x99 })
    [(0x0100, 0x12)]
    (fun t => flagBits t ++ [t.pc.toNat, (t.readByte 0x4001).toNat]) =
      some ([0, 0, 0, 0, 0] ++ [0x0101, 0x99]) := by decide

theorem test_T19_xchg : stepped ({ State.reset with pc := 0x0100, h := 0x11, l := 0x11, d := 0x22, e := 0x22 })
    [(0x0100, 0xEB)]
    (fun t => flagBits t ++ [t.d.toNat, t.e.toNat, t.h.toNat, t.l.toNat, t.pc.toNat]) =
      some ([0, 0, 0, 0, 0] ++ [0x11, 0x11, 0x22, 0x22, 0x0101]) := by decide

theorem test_AR2_add_C : stepped ({ State.reset with pc := 0x0100, a := 0xFF, c := 0x01 })
    [(0x0100, 0x81)]
    (fun t => flagBits t ++ [t.a.toNat, t.pc.toNat]) =
      some ([0, 1, 1, 1, 1] ++ [0x00, 0x0101]) := by decide

theorem test_AR4_add_M : stepped ({ State.reset with pc := 0x0100, a := 0x3A, h := 0x20, l := 0x00 })
    [(0x2000, 0xC6), (0x0100, 0x86)]
    (fun t => flagBits t ++ [t.a.toNat, t.pc.toNat]) =
      some ([0, 1, 1, 1, 1] ++ [0x00, 0x0101]) := by decide

theorem test_AR5_adc_B : stepped ({ State.reset with pc := 0x0100, a := 0xF8, b := 0x17 })
    [(0x0100, 0x88)]
    (fun t => flagBits t ++ [t.a.toNat, t.pc.toNat]) =
      some ([0, 0, 1, 1, 1] ++ [0x0F, 0x0101]) := by decide

theorem test_AR6_adc_B : stepped ({ State.reset with pc := 0x0100, a := 0x0F, b := 0x00, flags := flagsOf [0, 0, 0, 0, 1] })
    [(0x0100, 0x88)]
    (fun t => flagBits t ++ [t.a.toNat, t.pc.toNat]) =
      some ([0, 0, 0, 0, 0] ++ [0x10, 0x0101]) := by decide

theorem test_AR10_sub_E : stepped ({ State.reset with pc := 0x0100, a := 0x05, e := 0x15 })
    [(0x0100, 0x93)]
    (fun t => flagBits t ++ [t.a.toNat, t.pc.toNat]) =
      some ([1, 0, 0, 1, 1] ++ [0xF0, 0x0101]) := by decide

theorem test_AR12_sbb_B : stepped ({ State.reset with pc := 0x0100, a := 0x10, b := 0x00, flags := flagsOf [0, 0, 0, 0, 1] })
    [(0x0100, 0x98)]
    (fun t => flagBits t ++ [t.a.toNat, t.pc.toNat]) =
      some ([0, 0, 0, 1, 0] ++ [0x0F, 0x0101]) := by decide

theorem test_AR14_sbb_B : stepped ({ State.reset with pc := 0x0100, a := 0x10, b := 0x0F, flags := flagsOf [0, 0, 0, 0, 1] })
    [(0x0100, 0x98)]
    (fun t => flagBits t ++ [t.a.toNat, t.pc.toNat]) =
      some ([0, 1, 1, 1, 0] ++ [0x00, 0x0101]) := by decide

theorem test_AR16_aci : stepped ({ State.reset with pc := 0x0100, a := 0x10, flags := flagsOf [0, 0, 0, 0, 1] })
    [(0x0100, 0xCE), (0x0101, 0x0F)]
    (fun t => flagBits t ++ [t.a.toNat, t.pc.toNat]) =
      some ([0, 0, 0, 0, 0] ++ [0x20, 0x0102]) := by decide

theorem test_AR17_sui : stepped ({ State.reset with pc := 0x0100, a := 0x10 })
    [(0x0100, 0xD6), (0x0101, 0x20)]
    (fun t => flagBits t ++ [t.a.toNat, t.pc.toNat]) =
      some ([1, 0, 0, 1, 1] ++ [0xF0, 0x0102]) := by decide

theorem test_AR18_sbi : stepped ({ State.reset with pc := 0x0100, a := 0x10, flags := flagsOf [0, 0, 0, 0, 1] })
    [(0x0100, 0xDE), (0x0101, 0x10)]
    (fun t => flagBits t ++ [t.a.toNat, t.pc.toNat]) =
      some ([1, 0, 1, 1, 1] ++ [0xFF, 0x0102]) := by decide

theorem test_AR19_inr_B : stepped ({ State.reset with pc := 0x0100, b := 0xFF, flags := flagsOf [0, 0, 0, 0, 1] })
    [(0x0100, 0x04)]
    (fun t => flagBits t ++ [t.b.toNat, t.pc.toNat]) =
      some ([0, 1, 0, 1, 1] ++ [0x00, 0x0101]) := by decide

theorem test_AR21_inr_M : stepped ({ State.reset with pc := 0x0100, h := 0x20, l := 0x00 })
    [(0x2000, 0x0F), (0x0100, 0x34)]
    (fun t => flagBits t ++ [t.pc.toNat, (t.readByte 0x2000).toNat]) =
      some ([0, 0, 0, 0, 0] ++ [0x0101, 0x10]) := by decide

theorem test_AR22_dcr_C : stepped ({ State.reset with pc := 0x0100, c := 0x00 })
    [(0x0100, 0x0D)]
    (fun t => flagBits t ++ [t.c.toNat, t.pc.toNat]) =
      some ([1, 0, 0, 1, 0] ++ [0xFF, 0x0101]) := by decide

theorem test_AR23_dcr_D : stepped ({ State.reset with pc := 0x0100, d := 0x01, flags := flagsOf [0, 0, 1, 0, 1] })
    [(0x0100, 0x15)]
    (fun t => flagBits t ++ [t.d.toNat, t.pc.toNat]) =
      some ([0, 1, 1, 1, 1] ++ [0x00, 0x0101]) := by decide

theorem test_AR24_dcr_M : stepped ({ State.reset with pc := 0x0100, h := 0x20, l := 0x00 })
    [(0x2000, 0x80), (0x0100, 0x35)]
    (fun t => flagBits t ++ [t.pc.toNat, (t.readByte 0x2000).toNat]) =
      some ([0, 0, 0, 0, 0] ++ [0x0101, 0x7F]) := by decide

theorem test_AR25_inx_B : stepped ({ State.reset with pc := 0x0100, b := 0xFF, c := 0xFF })
    [(0x0100, 0x03)]
    (fun t => flagBits t ++ [t.b.toNat, t.c.toNat, t.pc.toNat]) =
      some ([0, 0, 0, 0, 0] ++ [0x00, 0x00, 0x0101]) := by decide

theorem test_AR26_inx_SP : stepped ({ State.reset with pc := 0x0100, sp := 0x1234 })
    [(0x0100, 0x33)]
    (fun t => flagBits t ++ [t.sp.toNat, t.pc.toNat]) =
      some ([0, 0, 0, 0, 0] ++ [0x1235, 0x0101]) := by decide

theorem test_AR27_dcx_D : stepped ({ State.reset with pc := 0x0100, d := 0x00, e := 0x00 })
    [(0x0100, 0x1B)]
    (fun t => flagBits t ++ [t.d.toNat, t.e.toNat, t.pc.toNat]) =
      some ([0, 0, 0, 0, 0] ++ [0xFF, 0xFF, 0x0101]) := by decide

theorem test_AR29_dad_B : stepped ({ State.reset with pc := 0x0100, h := 0x80, l := 0x00, b := 0x80, c := 0x00 })
    [(0x0100, 0x09)]
    (fun t => flagBits t ++ [t.h.toNat, t.pc.toNat]) =
      some ([0, 0, 0, 0, 1] ++ [0x00, 0x0101]) := by decide

theorem test_AR30_dad_D : stepped ({ State.reset with pc := 0x0100, h := 0x12, l := 0x34, d := 0x11, e := 0x11, flags := flagsOf [0, 0, 0, 0, 1] })
    [(0x0100, 0x19)]
    (fun t => flagBits t ++ [t.h.toNat, t.l.toNat, t.pc.toNat]) =
      some ([0, 0, 0, 0, 0] ++ [0x23, 0x45, 0x0101]) := by decide

theorem test_AR32_dad_SP : stepped ({ State.reset with pc := 0x0100, h := 0x00, l := 0x01, sp := 0xFFFF })
    [(0x0100, 0x39)]
    (fun t => flagBits t ++ [t.l.toNat, t.pc.toNat]) =
      some ([0, 0, 0, 0, 1] ++ [0x00, 0x0101]) := by decide

theorem test_AR33_daa : stepped ({ State.reset with pc := 0x0100, a := 0x0B })
    [(0x0100, 0x27)]
    (fun t => flagBits t ++ [t.a.toNat, t.pc.toNat]) =
      some ([0, 0, 1, 1, 0] ++ [0x11, 0x0101]) := by decide

theorem test_AR34_daa : stepped ({ State.reset with pc := 0x0100, a := 0x9A })
    [(0x0100, 0x27)]
    (fun t => flagBits t ++ [t.a.toNat, t.pc.toNat]) =
      some ([0, 1, 1, 1, 1] ++ [0x00, 0x0101]) := by decide

theorem test_LG1_ana_C : stepped ({ State.reset with pc := 0x0100, a := 0xFC, c := 0x0F, flags := flagsOf [0, 0, 1, 0, 1] })
    [(0x0100, 0xA1)]
    (fun t => flagBits t ++ [t.a.toNat, t.pc.toNat]) =
      some ([0, 0, 0, 1, 0] ++ [0x0C, 0x0101]) := by decide

theorem test_LG5_xra_M : stepped ({ State.reset with pc := 0x0100, a := 0x0F, h := 0x20, l := 0x00 })
    [(0x2000, 0xFF), (0x0100, 0xAE)]
    (fun t => flagBits t ++ [t.a.toNat, t.pc.toNat]) =
      some ([1, 0, 0, 1, 0] ++ [0xF0, 0x0101]) := by decide

theorem test_LG6_ora_B : stepped ({ State.reset with pc := 0x0100, a := 0x33, b := 0x0F })
    [(0x0100, 0xB0)]
    (fun t => flagBits t ++ [t.a.toNat, t.pc.toNat]) =
      some ([0, 0, 0, 1, 0] ++ [0x3F, 0x0101]) := by decide

theorem test_LG9_cmp_E : stepped ({ State.reset with pc := 0x0100, a := 0x02, e := 0x05 })
    [(0x0100, 0xBB)]
    (fun t => flagBits t ++ [t.pc.toNat]) =
      some ([1, 0, 1, 0, 1] ++ [0x0101]) := by decide

theorem test_LG10_cmp_E : stepped ({ State.reset with pc := 0x0100, a := 0xE5, e := 0x05 })
    [(0x0100, 0xBB)]
    (fun t => flagBits t ++ [t.pc.toNat]) =
      some ([1, 0, 0, 0, 0] ++ [0x0101]) := by decide

theorem test_LG12_ani : stepped ({ State.reset with pc := 0x0100, a := 0x3A })
    [(0x0100, 0xE6), (0x0101, 0x0F)]
    (fun t => flagBits t ++ [t.a.toNat, t.pc.toNat]) =
      some ([0, 0, 0, 1, 0] ++ [0x0A, 0x0102]) := by decide

theorem test_LG14_xri : stepped ({ State.reset with pc := 0x0100, a := 0x3B })
    [(0x0100, 0xEE), (0x0101, 0x81)]
    (fun t => flagBits t ++ [t.a.toNat, t.pc.toNat]) =
      some ([1, 0, 0, 0, 0] ++ [0xBA, 0x0102]) := by decide

theorem test_LG16_ori : stepped ({ State.reset with pc := 0x0100, a := 0xB5 })
    [(0x0100, 0xF6), (0x0101, 0x0F)]
    (fun t => flagBits t ++ [t.a.toNat, t.pc.toNat]) =
      some ([1, 0, 0, 0, 0] ++ [0xBF, 0x0102]) := by decide

theorem test_LG18_cpi : stepped ({ State.reset with pc := 0x0100, a := 0x40 })
    [(0x0100, 0xFE), (0x0101, 0x4A)]
    (fun t => flagBits t ++ [t.pc.toNat]) =
      some ([1, 0, 1, 1, 1] ++ [0x0102]) := by decide

theorem test_LG20_rlc : stepped ({ State.reset with pc := 0x0100, a := 0x01, flags := flagsOf [0, 0, 0, 0, 1] })
    [(0x0100, 0x07)]
    (fun t => flagBits t ++ [t.a.toNat, t.pc.toNat]) =
      some ([0, 0, 0, 0, 0] ++ [0x02, 0x0101]) := by decide

theorem test_LG22_rrc : stepped ({ State.reset with pc := 0x0100, a := 0x01 })
    [(0x0100, 0x0F)]
    (fun t => flagBits t ++ [t.a.toNat, t.pc.toNat]) =
      some ([0, 0, 0, 0, 1] ++ [0x80, 0x0101]) := by decide

theorem test_LG24_ral : stepped ({ State.reset with pc := 0x0100, a := 0x00, flags := flagsOf [0, 0, 0, 0, 1] })
    [(0x0100, 0x17)]
    (fun t => flagBits t ++ [t.a.toNat, t.pc.toNat]) =
      some ([0, 0, 0, 0, 0] ++ [0x01, 0x0101]) := by decide

theorem test_LG26_rar : stepped ({ State.reset with pc := 0x0100, a := 0x01 })
    [(0x0100, 0x1F)]
    (fun t => flagBits t ++ [t.a.toNat, t.pc.toNat]) =
      some ([0, 0, 0, 0, 1] ++ [0x00, 0x0101]) := by decide

theorem test_LG28_cma : stepped ({ State.reset with pc := 0x0100, a := 0x00, flags := flagsOf [0, 1, 0, 0, 0] })
    [(0x0100, 0x2F)]
    (fun t => flagBits t ++ [t.a.toNat, t.pc.toNat]) =
      some ([0, 1, 0, 0, 0] ++ [0xFF, 0x0101]) := by decide

theorem test_LG30_stc : stepped ({ State.reset with pc := 0x0100, flags := flagsOf [0, 0, 0, 0, 1] })
    [(0x0100, 0x37)]
    (fun t => flagBits t ++ [t.pc.toNat]) =
      some ([0, 0, 0, 0, 1] ++ [0x0101]) := by decide

theorem test_LG32_cmc : stepped ({ State.reset with pc := 0x0100 })
    [(0x0100, 0x3F)]
    (fun t => flagBits t ++ [t.pc.toNat]) =
      some ([0, 0, 0, 0, 1] ++ [0x0101]) := by decide

theorem test_BR1_jmp : stepped ({ State.reset with pc := 0x0100 })
    [(0x0100, 0xC3), (0x0101, 0x00), (0x0102, 0x20)]
    (fun t => flagBits t ++ [t.pc.toNat]) =
      some ([0, 0, 0, 0, 0] ++ [0x2000]) := by decide

theorem test_BR4_jnz : stepped ({ State.reset with pc := 0x0100, flags := flagsOf [0, 1, 0, 0, 0] })
    [(0x0100, 0xC2), (0x0101, 0x00), (0x0102, 0x20)]
    (fun t => flagBits t ++ [t.pc.toNat]) =
      some ([0, 1, 0, 0, 0] ++ [0x0103]) := by decide

theorem test_BR5_jz : stepped ({ State.reset with pc := 0x0100, flags := flagsOf [0, 1, 0, 0, 0] })
    [(0x0100, 0xCA), (0x0101, 0x00), (0x0102, 0x20)]
    (fun t => flagBits t ++ [t.pc.toNat]) =
      some ([0, 1, 0, 0, 0] ++ [0x2000]) := by decide

theorem test_BR8_jnc : stepped ({ State.reset with pc := 0x0100, flags := flagsOf [0, 0, 0, 0, 1] })
    [(0x0100, 0xD2), (0x0101, 0x00), (0x0102, 0x20)]
    (fun t => flagBits t ++ [t.pc.toNat]) =
      some ([0, 0, 0, 0, 1] ++ [0x0103]) := by decide

theorem test_BR9_jc : stepped ({ State.reset with pc := 0x0100, flags := flagsOf [0, 0, 0, 0, 1] })
    [(0x0100, 0xDA), (0x0101, 0x00), (0x0102, 0x20)]
    (fun t => flagBits t ++ [t.pc.toNat]) =
      some ([0, 0, 0, 0, 1] ++ [0x2000]) := by decide

theorem test_BR11_jpo : stepped ({ State.reset with pc := 0x0100 })
    [(0x0100, 0xE2), (0x0101, 0x00), (0x0102, 0x20)]
    (fun t => flagBits t ++ [t.pc.toNat]) =
      some ([0, 0, 0, 0, 0] ++ [0x2000]) := by decide

theorem test_BR13_jpe : stepped ({ State.reset with pc := 0x0100, flags := flagsOf [0, 0, 0, 1, 0] })
    [(0x0100, 0xEA), (0x0101, 0x00), (0x0102, 0x20)]
    (fun t => flagBits t ++ [t.pc.toNat]) =
      some ([0, 0, 0, 1, 0] ++ [0x2000]) := by decide

theorem test_BR16_jp : stepped ({ State.reset with pc := 0x0100, flags := flagsOf [1, 0, 0, 0, 0] })
    [(0x0100, 0xF2), (0x0101, 0x00), (0x0102, 0x20)]
    (fun t => flagBits t ++ [t.pc.toNat]) =
      some ([1, 0, 0, 0, 0] ++ [0x0103]) := by decide

theorem test_BR17_jm : stepped ({ State.reset with pc := 0x0100, flags := flagsOf [1, 0, 0, 0, 0] })
    [(0x0100, 0xFA), (0x0101, 0x00), (0x0102, 0x20)]
    (fun t => flagBits t ++ [t.pc.toNat]) =
      some ([1, 0, 0, 0, 0] ++ [0x2000]) := by decide

theorem test_BR20_call : stepped ({ State.reset with pc := 0x0100, sp := 0x0001 })
    [(0x0100, 0xCD), (0x0101, 0x00), (0x0102, 0x20)]
    (fun t => flagBits t ++ [t.sp.toNat, t.pc.toNat, (t.readByte 0x0000).toNat, (t.readByte 0xFFFF).toNat]) =
      some ([0, 0, 0, 0, 0] ++ [0xFFFF, 0x2000, 0x01, 0x03]) := by decide

theorem test_BR24_cz : stepped ({ State.reset with pc := 0x0100, sp := 0x1000, flags := flagsOf [0, 1, 0, 0, 0] })
    [(0x0100, 0xCC), (0x0101, 0x00), (0x0102, 0x20)]
    (fun t => flagBits t ++ [t.sp.toNat, t.pc.toNat, (t.readByte 0x0FFE).toNat, (t.readByte 0x0FFF).toNat]) =
      some ([0, 1, 0, 0, 0] ++ [0x0FFE, 0x2000, 0x03, 0x01]) := by decide

theorem test_BR27_cnc : stepped ({ State.reset with pc := 0x0100, sp := 0x1000, flags := flagsOf [0, 0, 0, 0, 1] })
    [(0x0100, 0xD4), (0x0101, 0x00), (0x0102, 0x20)]
    (fun t => flagBits t ++ [t.pc.toNat]) =
      some ([0, 0, 0, 0, 1] ++ [0x0103]) := by decide

theorem test_BR36_cm : stepped ({ State.reset with pc := 0x0100, sp := 0x1000, flags := flagsOf [1, 0, 0, 0, 0] })
    [(0x0100, 0xFC), (0x0101, 0x00), (0x0102, 0x20)]
    (fun t => flagBits t ++ [t.sp.toNat, t.pc.toNat, (t.readByte 0x0FFE).toNat, (t.readByte 0x0FFF).toNat]) =
      some ([1, 0, 0, 0, 0] ++ [0x0FFE, 0x2000, 0x03, 0x01]) := by decide

theorem test_BR39_ret : stepped ({ State.reset with pc := 0x0100 })
    [(0xFFFF, 0x34), (0x0000, 0x12), (0x0100, 0xC9)]
    (fun t => flagBits t ++ [t.sp.toNat, t.pc.toNat]) =
      some ([0, 0, 0, 0, 0] ++ [0x0001, 0x1234]) := by decide

theorem test_BR41_rnz : stepped ({ State.reset with pc := 0x2000, sp := 0x0FFE, flags := flagsOf [0, 1, 0, 0, 0] })
    [(0x0FFE, 0x03), (0x0FFF, 0x01), (0x2000, 0xC0)]
    (fun t => flagBits t ++ [t.pc.toNat]) =
      some ([0, 1, 0, 0, 0] ++ [0x2001]) := by decide

theorem test_BR50_rpe : stepped ({ State.reset with pc := 0x2000, sp := 0x0FFE, flags := flagsOf [0, 0, 0, 1, 0] })
    [(0x0FFE, 0x03), (0x0FFF, 0x01), (0x2000, 0xE8)]
    (fun t => flagBits t ++ [t.sp.toNat, t.pc.toNat]) =
      some ([0, 0, 0, 1, 0] ++ [0x1000, 0x0103]) := by decide

theorem test_BR57_rst_1 : stepped ({ State.reset with pc := 0x0200, sp := 0x1000 })
    [(0x0200, 0xCF)]
    (fun t => flagBits t ++ [t.sp.toNat, t.pc.toNat, (t.readByte 0x0FFE).toNat, (t.readByte 0x0FFF).toNat]) =
      some ([0, 0, 0, 0, 0] ++ [0x0FFE, 0x0008, 0x01, 0x02]) := by decide

theorem test_BR64_rst_7 : stepped ({ State.reset with pc := 0x0200 })
    [(0x0200, 0xFF)]
    (fun t => flagBits t ++ [t.sp.toNat, t.pc.toNat, (t.readByte 0xFFFD).toNat, (t.readByte 0xFFFE).toNat]) =
      some ([0, 0, 0, 0, 0] ++ [0xFFFD, 0x0038, 0x01, 0x02]) := by decide

theorem test_BR65_pchl : stepped ({ State.reset with pc := 0x0100, h := 0x43, l := 0x21 })
    [(0x0100, 0xE9)]
    (fun t => flagBits t ++ [t.pc.toNat]) =
      some ([0, 0, 0, 0, 0] ++ [0x4321]) := by decide

theorem test_SK2_push_D : stepped ({ State.reset with pc := 0x0100, sp := 0x1000, d := 0xAB, e := 0xCD })
    [(0x0100, 0xD5)]
    (fun t => flagBits t ++ [t.sp.toNat, t.pc.toNat, (t.readByte 0x0FFE).toNat, (t.readByte 0x0FFF).toNat]) =
      some ([0, 0, 0, 0, 0] ++ [0x0FFE, 0x0101, 0xCD, 0xAB]) := by decide

theorem test_SK5_pop_B : stepped ({ State.reset with pc := 0x0100, sp := 0xFFFF })
    [(0xFFFF, 0x34), (0x0000, 0x12), (0x0100, 0xC1)]
    (fun t => flagBits t ++ [t.b.toNat, t.c.toNat, t.sp.toNat, t.pc.toNat]) =
      some ([0, 0, 0, 0, 0] ++ [0x12, 0x34, 0x0001, 0x0101]) := by decide

theorem test_SK7_push_PSW : stepped ({ State.reset with pc := 0x0100, sp := 0x1000, a := 0x12, flags := flagsOf [1, 0, 1, 0, 1] })
    [(0x0100, 0xF5)]
    (fun t => flagBits t ++ [t.sp.toNat, t.pc.toNat, (t.readByte 0x0FFE).toNat, (t.readByte 0x0FFF).toNat]) =
      some ([1, 0, 1, 0, 1] ++ [0x0FFE, 0x0101, 0x93, 0x12]) := by decide

theorem test_SK10_pop_PSW : stepped ({ State.reset with pc := 0x0100, sp := 0x1000 })
    [(0x1000, 0xFF), (0x1001, 0x80), (0x0100, 0xF1)]
    (fun t => flagBits t ++ [t.a.toNat, t.sp.toNat, t.pc.toNat]) =
      some ([1, 1, 1, 1, 1] ++ [0x80, 0x1002, 0x0101]) := by decide

theorem test_SK11_pop_PSW : stepped ({ State.reset with pc := 0x0100, sp := 0x1000, flags := flagsOf [1, 1, 1, 1, 1] })
    [(0x1000, 0x2A), (0x1001, 0x00), (0x0100, 0xF1)]
    (fun t => flagBits t ++ [t.sp.toNat, t.pc.toNat]) =
      some ([0, 0, 0, 0, 0] ++ [0x1002, 0x0101]) := by decide

theorem test_SK13_xthl : stepped ({ State.reset with pc := 0x0100, sp := 0xFFFF, h := 0xAB, l := 0xCD })
    [(0xFFFF, 0x34), (0x0000, 0x12), (0x0100, 0xE3)]
    (fun t => flagBits t ++ [t.h.toNat, t.l.toNat, t.pc.toNat, (t.readByte 0x0000).toNat, (t.readByte 0xFFFF).toNat]) =
      some ([0, 0, 0, 0, 0] ++ [0x12, 0x34, 0x0101, 0xAB, 0xCD]) := by decide

theorem test_SK14_sphl : stepped ({ State.reset with pc := 0x0100, h := 0x23, l := 0x45 })
    [(0x0100, 0xF9)]
    (fun t => flagBits t ++ [t.sp.toNat, t.pc.toNat]) =
      some ([0, 0, 0, 0, 0] ++ [0x2345, 0x0101]) := by decide

theorem test_IO2_inPort : stepped ({ State.reset with pc := 0x0100 })
    [(0x0100, 0xDB), (0x0101, 0xFE)]
    (fun t => flagBits t ++ [t.a.toNat, t.pc.toNat]) =
      some ([0, 0, 0, 0, 0] ++ [0xFF, 0x0102]) := by decide

theorem test_IO5_outPort : stepped ({ State.reset with pc := 0x0100, a := 0x0B })
    [(0x0100, 0xD3), (0x0101, 0xFE)]
    (fun t => flagBits t ++ [t.pc.toNat, t.bank.val]) =
      some ([0, 0, 0, 0, 0] ++ [0x0102, 3]) := by decide

theorem test_IO6_outPort : stepped ({ State.reset with pc := 0x0100, a := 0xF8, bank := 5 })
    [(0x0100, 0xD3), (0x0101, 0xFE)]
    (fun t => flagBits t ++ [t.pc.toNat, t.bank.val]) =
      some ([0, 0, 0, 0, 0] ++ [0x0102, 0]) := by decide

theorem test_IO7_outPort : stepped ({ State.reset with pc := 0x0100, a := 0x41 })
    [(0x0100, 0xD3), (0x0101, 0x01)]
    (fun t => flagBits t ++ [t.pc.toNat, t.a.toNat]) =
      some ([0, 0, 0, 0, 0] ++ [0x0102, 0x41]) := by decide

theorem test_IO16_nop_DD : stepped ({ State.reset with pc := 0x0100 })
    [(0x0100, 0xDD), (0x0101, 0x3E), (0x0102, 0x07)]
    (fun t => flagBits t ++ [t.pc.toNat, t.a.toNat]) =
      some ([0, 0, 0, 0, 0] ++ [0x0101, 0x00]) := by decide

theorem test_IO19_ei : stepped ({ State.reset with pc := 0x0100 })
    [(0x0100, 0xFB)]
    (fun t => flagBits t ++ [t.pc.toNat, t.interruptEnabled.toNat]) =
      some ([0, 0, 0, 0, 0] ++ [0x0101, 1]) := by decide

theorem test_IO20_di : stepped ({ State.reset with pc := 0x0100, interruptEnabled := true })
    [(0x0100, 0xF3)]
    (fun t => flagBits t ++ [t.pc.toNat, t.interruptEnabled.toNat]) =
      some ([0, 0, 0, 0, 0] ++ [0x0101, 0]) := by decide

theorem test_IO21_rim : stepped ({ State.reset with pc := 0x0100, a := 0x5C })
    [(0x0100, 0x20)]
    (fun t => flagBits t ++ [t.a.toNat, t.pc.toNat]) =
      some ([0, 0, 0, 0, 0] ++ [0x00, 0x0101]) := by decide

theorem test_IO22_sim : stepped ({ State.reset with pc := 0x0100, a := 0x5C })
    [(0x0100, 0x30)]
    (fun t => flagBits t ++ [t.pc.toNat, t.a.toNat]) =
      some ([0, 0, 0, 0, 0] ++ [0x0101, 0x5C]) := by decide

theorem test_IO23_hlt : stepped ({ State.reset with pc := 0x0100 })
    [(0x0100, 0x76)]
    (fun t => flagBits t ++ [t.pc.toNat, t.halted.toNat]) =
      some ([0, 0, 0, 0, 0] ++ [0x0101, 1]) := by decide

theorem test_IO24_mvi_A : stepped ({ State.reset with pc := 0x0100, halted := true })
    [(0x0100, 0x3E), (0x0101, 0x05)]
    (fun t => flagBits t ++ [t.a.toNat, t.pc.toNat]) =
      some ([0, 0, 0, 0, 0] ++ [0x00, 0x0100]) := by decide

/-! ## Functions and host operations, by the vectors of 95_test_vectors.md -/

theorem test_ALU7_add : aluAdd 0xF8 0x17 true Flags.clear = (0x0F, flagsOf [0, 0, 1, 1, 1]) := by decide
theorem test_ALU19_sub : aluSub 0x1F 0x0F true (flagsOf [0, 0, 0, 0, 1]) = (0x0F, flagsOf [0, 0, 0, 1, 0]) := by decide
theorem test_ALU28_daa : aluDaa 0x9F Flags.clear = (0x05, flagsOf [0, 0, 1, 1, 1]) := by decide
theorem test_ALU33_pack : (flagsOf [1, 0, 1, 0, 1]).pack = 0x93 := by decide
theorem test_ALU38_unpack : Flags.unpack 0x2A = flagsOf [0, 0, 0, 0, 0] := by decide
theorem test_RS1_reset :
    State.hostReset { sample with halted := true, interruptEnabled := true, bank := 5, readSlot := true } =
      { State.reset with readSlot := true } := by decide
theorem test_IO3_in_present : ∃ t, exec (.inPort 0x00) { State.reset with readSlot := true } = .next t ∧
    t.a = Config.ioReadOracle 0 0x00 ∧ t.events = [.input 0x00 (Config.ioReadOracle 0 0x00)] := ⟨_, rfl, rfl, rfl⟩
theorem test_out_present :
    (nextState (step (place { State.reset with a := 0x41, writeSlot := true } [(0x0000, 0xD3), (0x0001, 0x01)]))).map
      State.events = some [.output 0x01 0x41] := by decide
theorem test_reentrant_callback_refused : hostApply (.setReadSlot .reentrant) sample = .refused .reentrantCallback := rfl
theorem test_load_source_unavailable : hostApply (.loadSource none 0x0000) sample = .next (.bool false, sample) := rfl
theorem test_withFetchWord_runs : nextState (step (State.reset.withFetchWord 24 0x2034C3)) =
    some { State.reset.withFetchWord 24 0x2034C3 with pc := 0x2034 } := by decide

/-! ## Witnesses: states that meet the hypotheses of each statement -/

theorem sample_wf : sample.wf = true := by decide

theorem witness_EncodeOfDecodeIsBytes : decode [0x21, 0xFF, 0xFF, 0x76] = .ok (.lxi_H 0xFFFF, [0x76]) := by decide

/-- Both clauses: a halted engine, and an instruction whose bytes run across the end of the address space. -/
theorem witness_StepRunsDecodedInstruction :
    (sample.setHalted true).halted = true ∧ sample.halted = false ∧
    decode [sample.readByte sample.pc, sample.readByte (sample.pc + 1), sample.readByte (sample.pc + 2)] =
      .ok (.jnz 0x2034, []) := by decide

theorem witness_DispatchIsTotal :
    decodeBytes 0x76 0x00 0x00 = .hlt ∧ (0x77 : Byte) ≠ 0x76 ∧ decodeBytes 0x77 0x00 0x00 = .mov_M_A := by decide

/-- A step that stores: MOV M,A at the end of the address space. -/
theorem witness_StepKeepsMemoryCanonical :
    (sample.writeByte 0xFFFE 0x77).wf = true ∧
    ∃ t, step (sample.writeByte 0xFFFE 0x77) = .next t ∧ t.readByte 0xFFFF = 0x5A :=
  ⟨by decide, _, rfl, by decide⟩

/-- The same step, seen from bank 7, whose byte at the stored address is not blank; and two states that differ in bank 7 only,
at the same step. -/
theorem witness_StepUsesOnlyActiveBank :
    ((sample.writeByte 0xFFFE 0x77).wf = true ∧ (7 : Fin 8) ≠ sample.bank ∧ sample.readBank 7 0xFFFF = 0x99 ∧
      ∃ t, step (sample.writeByte 0xFFFE 0x77) = .next t ∧ t.readByte 0xFFFF = 0x5A) ∧
    (sample.wf = true ∧ (sample.writeBank 7 0xFFFF 0x11).wf = true ∧ sample.writeBank 7 0xFFFF 0x11 ≠ sample ∧
      SameActiveBank sample (sample.writeBank 7 0xFFFF 0x11) ∧ ∃ t, step sample = .next t) := by
  refine ⟨⟨by decide, by decide, by decide, _, rfl, by decide⟩, by decide, by decide, by decide,
    ⟨⟨_, rfl⟩, fun addr => ?_⟩, _, rfl⟩
  show (sample.writeBank 7 0xFFFF 0x11).readBank 0 addr = sample.readBank 0 addr
  rw [State.readBank_writeBank sample_wf, if_neg (by simp)]

theorem witness_OnlyFlagGroupsChangeFlags : ∃ t, exec .cmc sample = .next t ∧ t.flags ≠ sample.flags :=
  ⟨_, rfl, by decide⟩

/-- HLT; then `reset()` of a halted engine, a step that halts, and a step of a halted engine. -/
theorem witness_HaltedIsSetByHltAndClearedByReset :
    (∃ t, exec .hlt sample = .next t ∧ t.halted ≠ sample.halted) ∧
    (∃ t, hostApply .reset (sample.setHalted true) = .next (.nothing, t) ∧ t.halted = false) ∧
    (∃ t, hostApply .step (sample.writeByte 0xFFFE 0x76) = .next (.nothing, t) ∧ t.halted = true ∧ sample.halted = false) ∧
    (∃ t, hostApply .step (sample.setHalted true) = .next (.nothing, t) ∧ t = sample.setHalted true) :=
  ⟨⟨_, rfl, by decide⟩, ⟨_, rfl, rfl⟩, ⟨_, rfl, by decide, rfl⟩, ⟨_, rfl, rfl⟩⟩

theorem witness_InterruptEnabledIsWrittenByEiDiAndReadByNothing :
    (∃ t, exec .ei sample = .next t ∧ t.interruptEnabled ≠ sample.interruptEnabled) ∧
    (∃ t, exec .di (sample.setInterruptEnabled true) = .next t ∧ t.interruptEnabled ≠ true) ∧
    ∃ t, step sample = .next t :=
  ⟨⟨_, rfl, by decide⟩, ⟨_, rfl, by decide⟩, _, rfl⟩

/-- OUT to port 254, and each host operation that selects a bank. -/
theorem witness_BankIsWrittenByOut254AndHost :
    (∃ t, exec (.outPort 254) { sample with a := 0xFF } = .next t ∧ t.bank ≠ sample.bank) ∧
    (∃ t, hostApply (.switchBank 7) sample = .next (.nothing, t) ∧ t.bank ≠ sample.bank) ∧
    (∃ t, hostApply .reset (sample.setBank 7) = .next (.nothing, t) ∧ t.bank ≠ 7) ∧
    (∃ t, hostApply .step (place { sample with a := 0x07 } [(0xFFFE, 0xD3), (0xFFFF, 0xFE)]) = .next (.nothing, t) ∧
      t.bank = 7) :=
  ⟨⟨_, rfl, by decide⟩, ⟨_, rfl, by decide⟩, ⟨_, rfl, by decide⟩, ⟨_, rfl, by decide⟩⟩

theorem witness_GatewayStateIsWrittenByInOutOnly :
    (∃ t, exec (.inPort 0x01) { sample with readSlot := true } = .next t ∧ t.events ≠ sample.events) ∧
    (∃ t, exec (.outPort 0x01) { sample with writeSlot := true } = .next t ∧ t.events ≠ sample.events) ∧
    (∃ t, exec .nop sample = .next t) :=
  ⟨⟨_, rfl, List.cons_ne_nil _ _⟩, ⟨_, rfl, by decide⟩, _, rfl⟩

theorem witness_OnlyBranchesWritePc : ∃ t, exec (.jmp 0xFFFF) sample = .next t ∧ t.pc ≠ sample.pc := ⟨_, rfl, by decide⟩

/-- An address below zero, the last address and one past it. -/
theorem witness_MemoryReadWriteActiveBank :
    sample.wf = true ∧ ((0xFFFF : Word).toNat : Int) = -1 % 65536 ∧ ((0xFFFF : Word).toNat : Int) = 65535 % 65536 ∧
    ((0x0000 : Word).toNat : Int) = 65536 % 65536 := by decide

theorem witness_BanksAreIsolated : sample.wf = true ∧ (0 : Fin 8) ≠ 7 ∧ (7 : Fin 8) ≠ 0 := by decide

/-- The first and the last bank, and the indices beside them. -/
theorem witness_SwitchBankIgnoresOutOfRange :
    ((0 : Int) ≤ 0 ∧ (0 : Int) < 8) ∧ ((0 : Int) ≤ 7 ∧ (7 : Int) < 8) ∧ ((-1 : Int) < 0) ∧ ((8 : Int) ≤ 8) := by
  decide

theorem witness_NamedBankAccess : sample.wf = true ∧ (-1 : Int) < 0 ∧ (8 : Int) ≤ 8 := by decide

/-- Three bytes from 0xFFFE: the first two fit, the third would pass the end, and 0xFFFD lies outside. -/
theorem witness_LoadBytesCopiesAndTruncates :
    sample.wf = true ∧ (0xFFFE : Word).toNat + 1 ≤ 0xFFFF ∧ ¬((0xFFFE : Word).toNat + 2 ≤ 0xFFFF) ∧
    ¬((0 : Fin 8) = sample.bank ∧ (0xFFFE : Word).toNat ≤ (0xFFFD : Word).toNat ∧
      (0xFFFD : Word).toNat < (0xFFFE : Word).toNat + 3) := by decide

theorem witness_PopUndoesPush : sample.wf = true ∧ (sample.push16 0x1234).sp = 0xFFFF := by decide

theorem witness_MovRegisterToMemory : sample.wf = true ∧ sample.getPair .HL = 0xFFFF := by decide

theorem witness_MviLoadsImmediate : sample.wf = true := sample_wf

theorem witness_StaStaxStoreAccumulator : sample.wf = true ∧ sample.getPair .BC = 0x1200 := by decide

/-- SHLD across the end of the address space. -/
theorem witness_LhldShldMoveHl : sample.wf = true ∧ (0xFFFF : Word) + 1 = 0x0000 := by decide

/-- ADC and SBB of M, ACI and SBI, on operands whose auxiliary carry the quirk changes (vectors AR6 and AR12). -/
theorem witness_AuxiliaryCarryQuirk :
    (∃ t, (0x34 : Byte) = sample.readLoc .M ∧ exec (aluInstr .ADC .M) sample = .next t) ∧
    (∃ t, exec (.aci 0x00) { sample with a := 0x0F } = .next t ∧ t.flags.ac = false) ∧
    (∃ t, (0x34 : Byte) = sample.readLoc .M ∧ exec (aluInstr .SBB .M) sample = .next t) ∧
    (∃ t, exec (.sbi 0x00) { sample with a := 0x10 } = .next t ∧ t.flags.ac = false) :=
  ⟨⟨_, by decide, rfl⟩, ⟨_, rfl, by decide⟩, ⟨_, by decide, rfl⟩, ⟨_, rfl, by decide⟩⟩

theorem witness_InrDcrKeepCarries : sample.wf = true ∧ sample.readLoc .M = 0x34 := by decide

/-- The largest two-digit operands, whose sum carries. -/
theorem witness_DaaAfterAddIsDecimalSum : 99 < 100 ∧ { sample with a := 0x99 }.a = bcd 99 ∧ 0 < 100 ∧
    { sample with a := 0x00 }.a = bcd 0 := by decide

/-- A taken and a not-taken call. -/
theorem witness_CallInstructions :
    sample.wf = true ∧ condHolds .Z sample.flags = true ∧ condHolds .NZ sample.flags = false := by decide

/-- A taken and a not-taken return. -/
theorem witness_ReturnInstructions : condHolds .C sample.flags = true ∧ condHolds .NC sample.flags = false := by decide

theorem witness_RestartAndPchl : sample.wf = true ∧ sample.sp - 2 = 0xFFFF := by decide

theorem witness_PushPopPairs : sample.wf = true ∧ sample.sp - 1 = 0x0000 := by decide

theorem witness_PushPopPsw : sample.wf = true ∧ sample.flags.pack = 0x47 := by decide

theorem witness_XthlSphl : { sample with sp := 0xFFFF }.wf = true := by decide

/-- An empty and a present read slot. -/
theorem witness_InReadsPort : sample.readSlot = false ∧ { sample with readSlot := true }.readSlot = true := by decide

/-- Port 254, and its neighbours with a present and an empty write slot. -/
theorem witness_OutWritesPortOrSelectsBank :
    (0xFE : Byte) = 254 ∧ ((0xFF : Byte) ≠ 254 ∧ { sample with writeSlot := true }.writeSlot = true) ∧
    ((0xFD : Byte) ≠ 254 ∧ sample.writeSlot = false) := by decide

theorem witness_NoOperations :
    (0x00 : Byte) ∈ ([0x00, 0x30, 0x08, 0x10, 0x18, 0x28, 0x38, 0xCB, 0xD9, 0xDD, 0xED, 0xFD] : List Byte) := by decide

/-- A finished run needs its fuel: HLT is the second instruction. -/
theorem witness_RunEndsWhenHalted :
    runFuel 1 (State.reset.writeByte 0x0001 0x76) = .unfinished { State.reset.writeByte 0x0001 0x76 with pc := 0x0001 } ∧
    runFuel 2 (State.reset.writeByte 0x0001 0x76) =
      .finished { State.reset.writeByte 0x0001 0x76 with pc := 0x0002, halted := true } := by decide

end Sys2Proof.Tests
end

/-! PROOFS. The statements of 10_state.md: the control booleans (R35, R37), the host's registers (R41) and the packed flag
byte (R34). -/

namespace Sys2Proof.Machine

/-! ## The control booleans

`halted` and `interruptEnabled` are replaced together: an instruction that writes neither of them commutes with the
replacement, which says at once that it does not read them and that it leaves them as they were. -/

/-- The state with both control booleans replaced. -/
def State.withControl (s : State) (h e : Bool) : State := (s.setHalted h).setInterruptEnabled e

/-- Apply a function to the state a result answers. -/
def Result.mapNext (f : State → State) : Result → Result
  | .next t => .next (f t)
  | .fault r => .fault r
  | .refused r => .refused r

@[simp] theorem Result.mapNext_next (f : State → State) (t : State) : Result.mapNext f (.next t) = .next (f t) := rfl

/-- The instructions that write a control boolean: HLT (R293), EI (R289) and DI (R290). -/
def WritesControl (i : Instr) : Prop := i = .hlt ∨ i = .ei ∨ i = .di

@[simp] theorem exec_hlt (s : State) : exec .hlt s = .next (s.setHalted true) := rfl
@[simp] theorem exec_ei (s : State) : exec .ei s = .next (s.setInterruptEnabled true) := rfl
@[simp] theorem exec_di (s : State) : exec .di s = .next (s.setInterruptEnabled false) := rfl

section
variable (s : State) (h e : Bool)

theorem State.withControl_self : s.withControl s.halted s.interruptEnabled = s := rfl
theorem State.withControl_halted : s.withControl s.halted e = s.setInterruptEnabled e := rfl

/-! Reads do not see the control booleans. -/

@[simp] theorem State.a_withControl : (s.withControl h e).a = s.a := rfl
@[simp] theorem State.flags_withControl : (s.withControl h e).flags = s.flags := rfl
@[simp] theorem State.readSlot_withControl : (s.withControl h e).readSlot = s.readSlot := rfl
@[simp] theorem State.writeSlot_withControl : (s.withControl h e).writeSlot = s.writeSlot := rfl
@[simp] theorem State.getPair_withControl (p : Pair) : (s.withControl h e).getPair p = s.getPair p := by
  cases p <;> rfl
@[simp] theorem State.readLoc_withControl (k : Loc) : (s.withControl h e).readLoc k = s.readLoc k := by
  cases k <;> simp [State.withControl]
@[simp] theorem State.readRp_withControl (rp : RegPair) : (s.withControl h e).readRp rp = s.readRp rp := by
  cases rp <;> simp [State.withControl]

/-! Writes of other parts commute with replacing them. -/

@[simp] theorem State.setFlags_withControl (f : Flags) :
    (s.withControl h e).setFlags f = (s.setFlags f).withControl h e := rfl
@[simp] theorem State.setCy_withControl (cy : Bool) :
    (s.withControl h e).setCy cy = (s.setCy cy).withControl h e := rfl
@[simp] theorem State.setReg_withControl (r : Reg) (v : Byte) :
    (s.withControl h e).setReg r v = (s.setReg r v).withControl h e := by
  cases r <;> rfl
@[simp] theorem State.setPair_withControl (p : Pair) (v : Word) :
    (s.withControl h e).setPair p v = (s.setPair p v).withControl h e := by
  simp [State.setPair]
@[simp] theorem State.writeLoc_withControl (k : Loc) (v : Byte) :
    (s.withControl h e).writeLoc k v = (s.writeLoc k v).withControl h e := by
  cases k with
  | reg r => exact State.setReg_withControl s h e r v
  | M => rfl
@[simp] theorem State.writeRp_withControl (rp : RegPair) (v : Word) :
    (s.withControl h e).writeRp rp v = (s.writeRp rp v).withControl h e := by
  cases rp with
  | pair p => exact State.setPair_withControl s h e p v
  | SP => rfl

/-- Fetch neither reads nor writes `interruptEnabled`. -/
theorem State.fetchInstr_setInterruptEnabled :
    (s.setInterruptEnabled e).fetchInstr = (s.fetchInstr.1, s.fetchInstr.2.setInterruptEnabled e) := by
  refine Prod.ext ?_ ?_
  · rw [State.fetchInstr_fst, State.fetchInstr_fst]
    rfl
  · rw [State.fetchInstr_snd, State.fetchInstr_snd]
    rfl

end

theorem inOp_withControl (port : Byte) (s : State) (h e : Bool) :
    inOp port (s.withControl h e) = Result.mapNext (·.withControl h e) (inOp port s) := by
  cases hs : s.readSlot
  · simp [inOp, State.ioRead_of_empty, hs]
  · simp only [inOp, State.ioRead_of_present, State.readSlot_withControl, hs]
    rfl

theorem outOp_withControl (port : Byte) (s : State) (h e : Bool) :
    outOp port (s.withControl h e) = Result.mapNext (·.withControl h e) (outOp port s) := by
  by_cases hp : port = 254
  · subst hp
    rfl
  · cases hs : s.writeSlot
    · simp [outOp_of_ne hp, State.ioWrite_of_empty, hs]
    · simp only [outOp_of_ne hp, State.ioWrite_of_present, State.writeSlot_withControl, hs]
      rfl

/-- An instruction that does not write the control booleans does not read them and leaves them as they were. -/
theorem exec_withControl {i : Instr} (hi : ¬WritesControl i) (s : State) (h e : Bool) :
    exec i (s.withControl h e) = Result.mapNext (·.withControl h e) (exec i s) := by
  cases i using Instr.byForm with
  | hlt | ei | di => simp [WritesControl] at hi
  | mov d k hdk => simp [exec_mov d k hdk, movOp]
  | mvi d v => simp [exec_mvi, mviOp]
  | lxi rp v => simp [exec_lxi, lxiOp]
  | ldax rp | stax rp => cases rp <;> rfl
  | alu op k =>
    simp only [exec_alu, State.readLoc_withControl]
    cases op <;> rfl
  | aluImm op v => cases op <;> rfl
  | inr k => simp [exec_inr, inrOp]
  | dcr k => simp [exec_dcr, dcrOp]
  | inx rp => simp [exec_inx, inxOp]
  | dcx rp => simp [exec_dcx, dcxOp]
  | dad rp =>
    simp only [exec_dad, dadOp, State.getPair_withControl, State.readRp_withControl, State.setCy_withControl,
      State.setPair_withControl, Result.mapNext_next]
  | push rp | pop rp => rcases rp with (_ | _ | _) | _ <;> rfl
  | jcc c v =>
    simp only [exec_jcc, jumpIfOp, State.flags_withControl, apply_ite (Result.mapNext _)]
    rfl
  | ccc c v =>
    simp only [exec_ccc, callIfOp, State.flags_withControl, apply_ite (Result.mapNext _)]
    rfl
  | rcc c =>
    simp only [exec_rcc, retIfOp, State.flags_withControl, apply_ite (Result.mapNext _)]
    rfl
  | rst n =>
    simp only [exec_rst]
    rfl
  | undocumented i hu => simp [exec_undocumented hu, nopOp]
  | outPort port => exact outOp_withControl port s h e
  | inPort port => exact inOp_withControl port s h e
  | nop | rlc | rrc | ral | rar | rim | shld | daa | lhld | cma | sim | sta | stc | lda | cmc | jmp | ret | call | xthl
  | pchl | xchg | sphl => rfl

/-- The control booleans after an instruction that writes neither. -/
theorem exec_keeps_control {i : Instr} (hi : ¬WritesControl i) {s t : State} (hx : exec i s = .next t) :
    t.halted = s.halted ∧ t.interruptEnabled = s.interruptEnabled := by
  have hc := exec_withControl hi s s.halted s.interruptEnabled
  rw [State.withControl_self, hx, Result.mapNext_next, Host.Outcome.next.injEq] at hc
  rw [hc]
  exact ⟨rfl, rfl⟩

/-- What an instruction does with `halted` (R35). -/
theorem exec_halted {i : Instr} {s t : State} (hx : exec i s = .next t) :
    (i = .hlt ∧ t.halted = true) ∨ t.halted = s.halted := by
  by_cases hi : WritesControl i
  · rcases hi with rfl | rfl | rfl <;> cases hx <;> simp
  · exact .inr (exec_keeps_control hi hx).1

/-- What an instruction does with `interruptEnabled` (R37). -/
theorem exec_interruptEnabled {i : Instr} {s t : State} (hx : exec i s = .next t) :
    i = .ei ∨ i = .di ∨ t.interruptEnabled = s.interruptEnabled := by
  by_cases hi : WritesControl i
  · rcases hi with rfl | rfl | rfl
    · cases hx
      simp
    · exact .inl rfl
    · exact .inr (.inl rfl)
  · exact .inr (.inr (exec_keeps_control hi hx).2)

/-- No instruction reads `interruptEnabled` (R37). -/
theorem exec_setInterruptEnabled {i : Instr} {s t : State} (hx : exec i s = .next t) (b : Bool) :
    ∃ b', exec i (s.setInterruptEnabled b) = .next (t.setInterruptEnabled b') := by
  by_cases hi : WritesControl i
  · rcases hi with rfl | rfl | rfl <;> cases hx
    · exact ⟨b, rfl⟩
    · exact ⟨true, rfl⟩
    · exact ⟨false, rfl⟩
  · obtain ⟨hh, -⟩ := exec_keeps_control hi hx
    have hc := exec_withControl hi s s.halted b
    rw [State.withControl_halted, hx, Result.mapNext_next, ← hh, State.withControl_halted] at hc
    exact ⟨b, hc⟩

/-- No step reads `interruptEnabled` (R37). -/
theorem step_setInterruptEnabled {s t : State} (hx : step s = .next t) (b : Bool) :
    ∃ b', step (s.setInterruptEnabled b) = .next (t.setInterruptEnabled b') := by
  cases hs : s.halted
  · rw [step_of_running hs] at hx
    rw [step_of_running (s := s.setInterruptEnabled b) hs, State.fetchInstr_setInterruptEnabled]
    exact exec_setInterruptEnabled hx b
  · rw [step_of_halted hs] at hx
    cases hx
    exact ⟨b, step_of_halted (s := s.setInterruptEnabled b) hs⟩

/-- Settles O15: what an instruction other than HLT, EI and DI does commutes with replacing `interruptEnabled`. -/
theorem interruptEnabledIsWrittenByEiDiAndReadByNothing :
    Obligations.InterruptEnabledIsWrittenByEiDiAndReadByNothing := by
  exact ⟨fun s => ⟨_, exec_ei s, rfl⟩, fun s => ⟨_, exec_di s, rfl⟩,
    fun _ _ _ hx hne => (exec_interruptEnabled hx).imp_right (·.resolve_right hne),
    fun _ _ b hx => step_setInterruptEnabled hx b⟩

/-! ## Who writes `halted` -/

/-- An instruction's first byte is the opcode it was decoded from (R86, R94). -/
theorem encode_head_decodeBytes (op x y : Byte) : (encode (decodeBytes op x y)).headD 0 = op := by
  refine forall_byte (P := fun op => (encode (decodeBytes op x y)).headD 0 = op) ?_ op
  intro n
  fin_cases n <;> rfl

/-- HLT is fetched from the byte 0x76 alone (R82, R293). -/
theorem State.opcode_of_fetchInstr_hlt {s : State} (h : s.fetchInstr.1 = .hlt) : s.readByte s.pc = 0x76 := by
  rw [State.fetchInstr_fst] at h
  rw [← encode_head_decodeBytes (s.readByte s.pc), h]
  rfl

theorem step_of_hostStep {s t : State} {r : HostReply} (hx : hostStep s = .next (r, t)) : step s = .next t := by
  unfold hostStep at hx
  split at hx <;> simp_all

@[simp] theorem State.halted_loadBytes (s : State) (start : Nat) (buffer : List Byte) :
    (s.loadBytes start buffer).halted = s.halted := by
  induction buffer generalizing s start with
  | nil => rfl
  | cons v rest ih =>
    unfold State.loadBytes
    split
    · exact ih _ _
    · rfl

@[simp] theorem State.halted_switchBank (s : State) (n : Int) : (s.switchBank n).halted = s.halted := by
  unfold State.switchBank
  split <;> rfl

/-- A host operation other than a step and `reset()` leaves `halted` as it was. -/
theorem hostApply_halted {op : HostOp} {s t : State} {r : HostReply} (hx : hostApply op s = .next (r, t)) :
    op = .step ∨ op = .reset ∨ t.halted = s.halted := by
  cases op with
  | step => exact .inl rfl
  | reset => exact .inr (.inl rfl)
  | getReg | getPair | getSp | getPc | readFlags | readHalted | readInterruptEnabled | readBankIndex | readByte | snapshot =>
    cases hx
    exact .inr (.inr rfl)
  | setReg | setPair | setSp | setPc | writeByte | switchBank | loadBytes =>
    cases hx
    simp
  | readByteIn bank addr =>
    simp only [hostApply, hostReadByteIn] at hx
    split at hx <;> cases hx
    simp
  | writeByteIn bank addr v =>
    simp only [hostApply, hostWriteByteIn] at hx
    split at hx <;> cases hx
    simp
  | loadSource source start =>
    cases source <;> cases hx <;> simp
  | setReadSlot choice | setWriteSlot choice =>
    cases choice <;> cases hx <;> simp

/-- A step that sets `halted` ran the opcode byte 0x76 (R82, R293). -/
theorem step_sets_halted {s t : State} (hx : step s = .next t) (hs : s.halted = false) (ht : t.halted = true) :
    s.readByte s.pc = 0x76 := by
  rw [step_of_running hs] at hx
  rcases exec_halted hx with ⟨hi, -⟩ | h
  · exact State.opcode_of_fetchInstr_hlt hi
  · simp [h, State.fetchInstr_snd, hs] at ht

/-- Settles O14, by what an instruction and a host operation do with `halted`. -/
theorem haltedIsSetByHltAndClearedByReset : Obligations.HaltedIsSetByHltAndClearedByReset := by
  refine ⟨fun s => ⟨_, exec_hlt s, rfl⟩, ?_, fun s => ⟨_, rfl, rfl⟩, ?_⟩
  · intro i s t hx hne
    exact (exec_halted hx).resolve_right hne
  · intro op s t r hx
    have hstep : op = .step → step s = .next t := by
      rintro rfl
      exact step_of_hostStep hx
    have hstill : s.halted = true → op = .step → t = s := by
      intro hs hop
      have h := hstep hop
      rw [step_of_halted hs, Host.Outcome.next.injEq] at h
      exact h.symm
    refine ⟨fun hs ht => ?_, fun hs ht => ?_, hstill⟩
    · rcases hostApply_halted hx with hop | hop | h
      · rw [hstill hs hop, hs] at ht
        cases ht
      · exact hop
      · rw [h, hs] at ht
        cases ht
    · rcases hostApply_halted hx with hop | rfl | h
      · exact ⟨hop, step_sets_halted (hstep hop) hs ht⟩
      · cases hx
        cases ht
      · rw [h, hs] at ht
        cases ht

/-! ## The host's registers -/

/-- The low `n` bits of an integer (R10). -/
theorem ofInt_toNat_cast (n : Nat) (v : Int) : ((BitVec.ofInt n v).toNat : Int) = v % (2 ^ n : Nat) := by
  rw [BitVec.toNat_ofInt, Int.toNat_of_nonneg (Int.emod_nonneg _ (by positivity))]

/-- Memory that reads as before is the same but for any stores. -/
theorem memorySameBut_of_readBank {s t : State} (h : ∀ bk x, t.readBank bk x = s.readBank bk x) (stored : List Word) :
    MemorySameBut stored s t := fun bk x _ => h bk x

theorem frame_setReg (s : State) (r : Reg) (v : Byte) : Frame [.reg r] [] s (s.setReg r v) := by
  refine ⟨fun p hp => ?_, memorySameBut_of_readBank (by simp) _⟩
  cases p with
  | reg q => simp_all [Part.Same, State.getReg_setReg]
  | _ => simp [Part.Same]

theorem frame_setPair (s : State) (p : Pair) (v : Word) : Frame (pairParts p) [] s (s.setPair p v) := by
  refine ⟨fun q hq => ?_, memorySameBut_of_readBank (by simp) _⟩
  cases q with
  | reg r => simp_all [Part.Same, State.getReg_setPair, pairParts]
  | _ => simp [Part.Same]

theorem frame_setSp (s : State) (v : Word) : Frame [.sp] [] s (s.setSp v) := by
  refine ⟨fun p hp => ?_, memorySameBut_of_readBank (by simp) _⟩
  cases p with
  | sp => simp at hp
  | _ => simp [Part.Same]

theorem frame_setPc (s : State) (v : Word) : Frame [.pc] [] s (s.setPc v) := by
  refine ⟨fun p hp => ?_, memorySameBut_of_readBank (by simp) _⟩
  cases p with
  | pc => simp at hp
  | _ => simp [Part.Same]

/-- Settles O26: each set is the write of one register or pair. -/
theorem hostSetTruncatesToWidth : Obligations.HostSetTruncatesToWidth := by
  refine ⟨fun s r v => ⟨rfl, _, rfl, ?_, frame_setReg s r _⟩, fun s p v => ⟨rfl, _, rfl, ?_, frame_setPair s p _⟩,
    fun s v => ⟨rfl, _, rfl, ofInt_toNat_cast 16 v, frame_setSp s _⟩,
    fun s v => ⟨rfl, _, rfl, ofInt_toNat_cast 16 v, frame_setPc s _⟩⟩
  · rw [State.getReg_setReg, if_pos rfl]
    exact ofInt_toNat_cast 8 v
  · have h := ofInt_toNat_cast 16 v
    rw [← State.getPair_setPair s p (BitVec.ofInt 16 v), State.getPair, joinBytes_toNat] at h
    exact_mod_cast h

/-! ## The packed flag byte -/

/-- The bits of a packed flag byte (R33). -/
theorem Flags.getLsbD_pack (f : Flags) :
    f.pack.getLsbD 7 = f.s ∧ f.pack.getLsbD 6 = f.z ∧ f.pack.getLsbD 5 = false ∧ f.pack.getLsbD 4 = f.ac ∧
    f.pack.getLsbD 3 = false ∧ f.pack.getLsbD 2 = f.p ∧ f.pack.getLsbD 1 = true ∧ f.pack.getLsbD 0 = f.cy := by
  obtain ⟨s, z, ac, p, cy⟩ := f
  revert s z ac p cy
  decide

theorem Flags.unpack_pack (f : Flags) : Flags.unpack f.pack = f := by
  obtain ⟨h7, h6, -, h4, -, h2, -, h0⟩ := f.getLsbD_pack
  rw [Flags.unpack, h7, h6, h4, h2, h0]

theorem Flags.pack_unpack (b : Byte) : (Flags.unpack b).pack = (b &&& 0xD5) ||| 0x02 := by
  obtain ⟨h7, h6, h5, h4, h3, h2, h1, h0⟩ := (Flags.unpack b).getLsbD_pack
  apply BitVec.eq_of_getLsbD_eq
  intro i hi
  interval_cases i <;> simp only [h0, h1, h2, h3, h4, h5, h6, h7] <;> simp [Flags.unpack]

/-- Settles O20, by the bits of a packed byte. -/
theorem packedFlagsRoundTrip : Obligations.PackedFlagsRoundTrip :=
  ⟨fun _ => rfl, Flags.unpack_pack, Flags.pack_unpack⟩

end Sys2Proof.Machine

/-! PROOFS. The statements of 20_memory.md: the active bank (R52, R53, R54), the isolation of the banks (R73), `switchBank`
(R58) and `loadBytes` (R60). -/

namespace Sys2Proof.Machine

/-! ## A state with another memory -/

/-- The state with its memory replaced. -/
def State.withMem (s : State) (m : Memory) : State := { s with mem := m }

/-- Store bytes at addresses of one bank, the first of the list first. -/
def Memory.storeAll (bk : Fin 8) : List (Word × Byte) → Memory → Memory
  | [], m => m
  | (x, v) :: rest, m => storeAll bk rest (Memory.write m (cellKey bk x) v)

@[simp] theorem Memory.storeAll_nil (bk : Fin 8) (m : Memory) : m.storeAll bk [] = m := rfl

/-- Stores in one bank leave the others as they were (R73). -/
theorem Memory.read_storeAll_of_ne {bk bk' : Fin 8} (h : bk' ≠ bk) (stores : List (Word × Byte)) {m : Memory}
    (hm : Memory.wf m = true) (x : Word) :
    Memory.read (Memory.storeAll bk stores m) (cellKey bk' x) = Memory.read m (cellKey bk' x) := by
  induction stores generalizing m with
  | nil => rfl
  | cons w rest ih =>
    rw [Memory.storeAll, ih (Memory.wf_write hm (cellKey_lt bk w.1) w.2), Memory.read_write hm,
      if_neg fun hk => h (cellKey_inj.1 hk).1]

/-- The same stores keep two memories alike on the bank stored to. -/
theorem Memory.read_storeAll_congr (bk : Fin 8) (stores : List (Word × Byte)) {m m' : Memory} (hm : Memory.wf m = true)
    (hm' : Memory.wf m' = true) (h : ∀ x, Memory.read m' (cellKey bk x) = Memory.read m (cellKey bk x)) (x : Word) :
    Memory.read (Memory.storeAll bk stores m') (cellKey bk x) = Memory.read (Memory.storeAll bk stores m) (cellKey bk x) := by
  induction stores generalizing m m' with
  | nil => exact h x
  | cons w rest ih =>
    refine ih (Memory.wf_write hm (cellKey_lt bk w.1) w.2) (Memory.wf_write hm' (cellKey_lt bk w.1) w.2) fun y => ?_
    rw [Memory.read_write hm, Memory.read_write hm', h y]

section
variable (s : State) (m : Memory)

theorem State.withMem_self : s.withMem s.mem = s := rfl

/-- Every part other than memory is as it was. -/
theorem State.same_withMem (p : Part) : p.Same s (s.withMem m) := by
  cases p with
  | reg r => cases r <;> rfl
  | _ => rfl

/-! What is read elsewhere than in memory. -/

@[simp] theorem State.flags_withMem : (s.withMem m).flags = s.flags := rfl
@[simp] theorem State.sp_withMem : (s.withMem m).sp = s.sp := rfl
@[simp] theorem State.pc_withMem : (s.withMem m).pc = s.pc := rfl
@[simp] theorem State.bank_withMem : (s.withMem m).bank = s.bank := rfl
@[simp] theorem State.readSlot_withMem : (s.withMem m).readSlot = s.readSlot := rfl
@[simp] theorem State.writeSlot_withMem : (s.withMem m).writeSlot = s.writeSlot := rfl
@[simp] theorem State.readBank_withMem (bk : Fin 8) (x : Word) :
    (s.withMem m).readBank bk x = Memory.read m (cellKey bk x) := rfl
@[simp] theorem State.getPair_withMem (p : Pair) : (s.withMem m).getPair p = s.getPair p := by
  cases p <;> rfl
@[simp] theorem State.readRp_withMem (rp : RegPair) : (s.withMem m).readRp rp = s.readRp rp := by
  cases rp with
  | pair p => exact State.getPair_withMem s m p
  | SP => rfl

/-! Writes elsewhere commute with replacing the memory. -/

@[simp] theorem State.setPc_withMem (v : Word) : (s.withMem m).setPc v = (s.setPc v).withMem m := rfl
@[simp] theorem State.setFlags_withMem (f : Flags) : (s.withMem m).setFlags f = (s.setFlags f).withMem m := rfl
@[simp] theorem State.setCy_withMem (cy : Bool) : (s.withMem m).setCy cy = (s.setCy cy).withMem m := rfl
@[simp] theorem State.setReg_withMem (r : Reg) (v : Byte) : (s.withMem m).setReg r v = (s.setReg r v).withMem m := by
  cases r <;> rfl
@[simp] theorem State.setPair_withMem (p : Pair) (v : Word) :
    (s.withMem m).setPair p v = (s.setPair p v).withMem m := by
  simp [State.setPair]
@[simp] theorem State.writeRp_withMem (rp : RegPair) (v : Word) :
    (s.withMem m).writeRp rp v = (s.writeRp rp v).withMem m := by
  cases rp with
  | pair p => exact State.setPair_withMem s m p v
  | SP => rfl

/-! Each write of memory is a list of stores in the active bank. -/

/-- The stores of a location's write: one for M, none for a register (R89). -/
def State.locStores (k : Loc) (v : Byte) : List (Word × Byte) :=
  match k with
  | .reg _ => []
  | .M => [(s.getPair .HL, v)]

/-- The stores of a push (R270). -/
def State.pushStores (v : Word) : List (Word × Byte) := [(s.sp - 1, hiByte v), (s.sp - 2, loByte v)]

@[simp] theorem State.writeLoc_withMem (k : Loc) (v : Byte) :
    (s.withMem m).writeLoc k v = (s.writeLoc k v).withMem (m.storeAll s.bank (s.locStores k v)) := by
  cases k with
  | reg r => exact State.setReg_withMem s m r v
  | M => rfl
@[simp] theorem State.push16_withMem (v : Word) :
    (s.withMem m).push16 v = (s.push16 v).withMem (m.storeAll s.bank (s.pushStores v)) := by
  rw [State.push16_eq, State.push16_eq]
  rfl

/-! Reads of memory, when the active bank reads the same in both memories. -/

variable {s m} (hm : ∀ x, (s.withMem m).readByte x = s.readByte x)
include hm

theorem State.readLoc_withMem (k : Loc) : (s.withMem m).readLoc k = s.readLoc k := by
  cases k with
  | reg r => cases r <;> rfl
  | M => exact hm _

theorem State.readWord_withMem (x : Word) : (s.withMem m).readWord x = s.readWord x := by
  rw [State.readWord, State.readWord, hm, hm]

theorem State.pop16_withMem : (s.withMem m).pop16 = (s.pop16.1, s.pop16.2.withMem m) := by
  rw [State.pop16_eq, State.pop16_eq, State.sp_withMem, State.readWord_withMem hm]
  rfl

theorem State.fetchInstr_withMem : (s.withMem m).fetchInstr = (s.fetchInstr.1, s.fetchInstr.2.withMem m) := by
  refine Prod.ext ?_ ?_
  · simp only [State.fetchInstr_fst, State.pc_withMem, hm]
  · simp only [State.fetchInstr_snd, State.pc_withMem, State.setPc_withMem, hm]

end

/-! ## Every access of a step goes to the active bank -/

/-- From a state and from one that reads the same in the active bank, a meaning gives the same result, up to memory: each
memory gets the same stores, in the bank that was active. -/
def UsesOnlyActiveBank (meaning : State → Result) (s : State) : Prop :=
  ∃ stores, ∀ m, (∀ x, (s.withMem m).readByte x = s.readByte x) →
    meaning (s.withMem m) = Result.mapNext (·.withMem (m.storeAll s.bank stores)) (meaning s)

theorem inOp_withMem (port : Byte) (s : State) (m : Memory) :
    inOp port (s.withMem m) = Result.mapNext (·.withMem m) (inOp port s) := by
  cases hs : s.readSlot
  · simp [inOp, State.ioRead_of_empty, hs]
  · simp only [inOp, State.ioRead_of_present, State.readSlot_withMem, hs]
    rfl

theorem outOp_withMem (port : Byte) (s : State) (m : Memory) :
    outOp port (s.withMem m) = Result.mapNext (·.withMem m) (outOp port s) := by
  by_cases hp : port = 254
  · subst hp
    rfl
  · cases hs : s.writeSlot
    · simp [outOp_of_ne hp, State.ioWrite_of_empty, hs]
    · simp only [outOp_of_ne hp, State.ioWrite_of_present, State.writeSlot_withMem, hs]
      rfl

theorem retOp_withMem {s : State} {m : Memory} (hm : ∀ x, (s.withMem m).readByte x = s.readByte x) :
    retOp (s.withMem m) = Result.mapNext (·.withMem m) (retOp s) := by
  simp only [retOp, State.pop16_withMem hm]
  rfl

theorem callOp_withMem (a : Word) (s : State) (m : Memory) :
    callOp a (s.withMem m) = Result.mapNext (·.withMem (m.storeAll s.bank (s.pushStores s.pc))) (callOp a s) := by
  simp [callOp]

/-- Every access of an instruction goes to the active bank (R54). -/
theorem exec_usesOnlyActiveBank (i : Instr) (s : State) : UsesOnlyActiveBank (exec i) s := by
  cases i using Instr.byForm with
  | mov d k hdk =>
    exact ⟨s.locStores d (s.readLoc k), fun m hm => by simp [exec_mov d k hdk, movOp, State.readLoc_withMem hm]⟩
  | mvi d v => exact ⟨s.locStores d v, fun m _ => by simp [exec_mvi, mviOp]⟩
  | inr k =>
    exact ⟨s.locStores k (s.readLoc k + 1), fun m hm => by simp [exec_inr, inrOp, State.readLoc_withMem hm]⟩
  | dcr k =>
    exact ⟨s.locStores k (s.readLoc k - 1), fun m hm => by simp [exec_dcr, dcrOp, State.readLoc_withMem hm]⟩
  | stax rp => exact ⟨[(s.indAddr rp, s.a)], fun m _ => by cases rp <;> rfl⟩
  | sta v => exact ⟨[(v, s.a)], fun _ _ => rfl⟩
  | shld v => exact ⟨[(v, loByte (s.getPair .HL)), (v + 1, hiByte (s.getPair .HL))], fun _ _ => rfl⟩
  | xthl =>
    refine ⟨[(s.sp, loByte (s.getPair .HL)), (s.sp + 1, hiByte (s.getPair .HL))], fun m hm => ?_⟩
    show xthlOp _ = _
    rw [xthlOp, State.sp_withMem, State.readWord_withMem hm]
    rfl
  | push rp =>
    cases rp with
    | pair p =>
      refine ⟨s.pushStores (s.getPair p), fun m _ => ?_⟩
      simp only [exec_push, pushOp, State.getPair_withMem, State.push16_withMem, Result.mapNext_next]
    | PSW => exact ⟨s.pushStores s.psw, fun m _ => congrArg _ (State.push16_withMem s m s.psw)⟩
  | call v => exact ⟨_, fun m _ => callOp_withMem v s m⟩
  | rst n =>
    refine ⟨s.pushStores s.pc, fun m _ => ?_⟩
    rw [exec_rst, exec_rst]
    exact callOp_withMem (rstTarget n) s m
  | ccc c v =>
    cases hc : condHolds c s.flags
    · exact ⟨[], fun m _ => by simp [exec_ccc, callIfOp_of_not_holds, hc]⟩
    · exact ⟨_, fun m _ => by simpa [exec_ccc, callIfOp_of_holds, hc] using callOp_withMem v s m⟩
  | rcc c =>
    refine ⟨[], fun m hm => ?_⟩
    cases hc : condHolds c s.flags
    · simp [exec_rcc, retIfOp_of_not_holds, hc]
    · simpa [exec_rcc, retIfOp_of_holds, hc] using retOp_withMem hm
  | ret => exact ⟨[], fun _ hm => retOp_withMem hm⟩
  | pop rp =>
    refine ⟨[], fun m hm => ?_⟩
    cases rp with
    | pair p =>
      simp only [exec_pop, popOp, State.pop16_withMem hm, State.setPair_withMem]
      rfl
    | PSW =>
      show popPswOp _ = _
      simp only [popPswOp, State.pop16_withMem hm]
      rfl
  | alu op k =>
    refine ⟨[], fun m hm => ?_⟩
    simp only [exec_alu, State.readLoc_withMem hm]
    cases op <;> rfl
  | ldax rp =>
    refine ⟨[], fun m hm => ?_⟩
    simp only [exec_ldax, ldaxOp, hm]
    cases rp <;> rfl
  | lda v =>
    refine ⟨[], fun m hm => ?_⟩
    show ldaOp _ _ = _
    rw [ldaOp, hm]
    rfl
  | lhld v =>
    refine ⟨[], fun m hm => ?_⟩
    show lhldOp _ _ = _
    rw [lhldOp, State.readWord_withMem hm]
    rfl
  | lxi rp v => exact ⟨[], fun m _ => by simp [exec_lxi, lxiOp]⟩
  | inx rp => exact ⟨[], fun m _ => by simp [exec_inx, inxOp]⟩
  | dcx rp => exact ⟨[], fun m _ => by simp [exec_dcx, dcxOp]⟩
  | dad rp =>
    refine ⟨[], fun m _ => ?_⟩
    simp only [exec_dad, dadOp, State.getPair_withMem, State.readRp_withMem, State.setCy_withMem, State.setPair_withMem,
      Result.mapNext_next]
    rfl
  | jcc c v =>
    refine ⟨[], fun m _ => ?_⟩
    simp only [exec_jcc, jumpIfOp, State.flags_withMem, apply_ite (Result.mapNext _)]
    rfl
  | undocumented i hu => exact ⟨[], fun m _ => by simp [exec_undocumented hu, nopOp]⟩
  | outPort port => exact ⟨[], fun m _ => outOp_withMem port s m⟩
  | inPort port => exact ⟨[], fun m _ => inOp_withMem port s m⟩
  | aluImm op v => exact ⟨[], fun m _ => by cases op <;> rfl⟩
  | hlt | ei | di | nop | rlc | rrc | ral | rar | rim | daa | cma | sim | stc | cmc | jmp | pchl | xchg | sphl =>
    exact ⟨[], fun _ _ => rfl⟩

/-- Every access of a step, fetch among them, goes to the active bank (R54). -/
theorem step_usesOnlyActiveBank (s : State) : UsesOnlyActiveBank step s := by
  cases hs : s.halted
  · obtain ⟨stores, h⟩ := exec_usesOnlyActiveBank s.fetchInstr.1 s.fetchInstr.2
    refine ⟨stores, fun m hm => ?_⟩
    rw [step_of_running hs, step_of_running (s := s.withMem m) hs, State.fetchInstr_withMem hm]
    rw [State.fetchInstr_snd] at h ⊢
    exact h m hm
  · exact ⟨[], fun m _ => by rw [step_of_halted hs, step_of_halted (s := s.withMem m) hs]; rfl⟩

/-- A step's changes to memory are stores in the active bank, and a state that reads the same there takes the same
step with the same stores (R54). -/
theorem step_eq_withMem_storeAll {s t : State} (hx : step s = .next t) :
    ∃ stores, t = t.withMem (s.mem.storeAll s.bank stores) ∧
      ∀ m, (∀ x, (s.withMem m).readByte x = s.readByte x) →
        step (s.withMem m) = .next (t.withMem (m.storeAll s.bank stores)) := by
  obtain ⟨stores, h⟩ := step_usesOnlyActiveBank s
  simp only [hx, Result.mapNext_next] at h
  have hself := h s.mem fun _ => rfl
  rw [State.withMem_self, hx, Host.Outcome.next.injEq] at hself
  exact ⟨stores, hself, h⟩

/-- Settles O12: a step makes the same stores, in the active bank, from every state that reads the same there. -/
theorem stepUsesOnlyActiveBank : Obligations.StepUsesOnlyActiveBank := by
  constructor
  · intro s t hs hx bank addr hne
    obtain ⟨stores, ht, -⟩ := step_eq_withMem_storeAll hx
    rw [ht]
    exact Memory.read_storeAll_of_ne hne stores hs addr
  · rintro s _ t hs hu ⟨⟨m, rfl⟩, hm⟩ hx
    obtain ⟨stores, ht, h⟩ := step_eq_withMem_storeAll hx
    refine ⟨_, h m hm, ⟨_, rfl⟩, fun addr => ?_⟩
    rw [ht]
    exact Memory.read_storeAll_congr s.bank stores hs hu hm addr

/-! ## The host's access to memory -/

/-- The low `n` bits of an integer, from its residue (R10). -/
theorem ofInt_eq_of_toNat_eq {n : Nat} {x : BitVec n} {v : Int} (h : (x.toNat : Int) = v % (2 ^ n : Nat)) :
    BitVec.ofInt n v = x := by
  apply BitVec.eq_of_toNat_eq
  have := ofInt_toNat_cast n v
  omega

/-- A store's frame: one byte of the active bank (R53). -/
theorem frame_writeByte {s : State} (hs : s.wf = true) (x : Word) (v : Byte) : Frame [] [x] s (s.writeByte x v) := by
  refine ⟨fun p _ => s.same_withMem _ p, fun bk y h => ?_⟩
  rw [State.readBank_writeByte hs, if_neg (by simpa using h)]

/-- Settles O21: the address is truncated to 16 bits and the value to 8. -/
theorem memoryReadWriteActiveBank : Obligations.MemoryReadWriteActiveBank := by
  intro s addr v x hs hx
  have hx' : BitVec.ofInt 16 addr = x := ofInt_eq_of_toNat_eq hx
  subst hx'
  refine ⟨rfl, _, rfl, ?_, frame_writeByte hs _ _⟩
  rw [State.readBank_writeByte hs, if_pos ⟨rfl, rfl⟩]
  exact ofInt_toNat_cast 8 v

/-- Settles O22, by read after write over the banks. -/
theorem banksAreIsolated : Obligations.BanksAreIsolated := by
  intro s n m a v hs hne
  have hother : ∀ x, (s.writeBank n a v).readBank m x = s.readBank m x := fun x => by
    rw [State.readBank_writeBank hs, if_neg fun h => hne h.1]
  refine ⟨hother, hother a, ?_⟩
  rw [State.readByte_setBank, State.readBank_setBank, State.readBank_writeBank hs, if_pos ⟨rfl, rfl⟩]

/-! ## switchBank -/

theorem bankIndex_eq_some {n : Int} (h0 : 0 ≤ n) (h8 : n < 8) :
    ∃ b : Fin 8, bankIndex n = some b ∧ (b.val : Int) = n := by
  refine ⟨_, if_pos ⟨h0, h8⟩, ?_⟩
  rw [Fin.val_ofNat, Nat.mod_eq_of_lt (by omega)]
  omega

theorem bankIndex_eq_none {n : Int} (h : n < 0 ∨ 8 ≤ n) : bankIndex n = none := if_neg (by omega)

theorem frame_setBank (s : State) (n : Fin 8) : Frame [.bank] [] s (s.setBank n) := by
  refine ⟨fun p hp => ?_, memorySameBut_of_readBank (by simp) _⟩
  cases p with
  | bank => simp at hp
  | _ => simp [Part.Same]

theorem frame_refl (changed : List Part) (stored : List Word) (s : State) : Frame changed stored s s :=
  ⟨fun p _ => s.same_withMem s.mem p, memorySameBut_of_readBank (fun _ _ => rfl) _⟩

/-- Settles O23, by whether the index names a bank. -/
theorem switchBankIgnoresOutOfRange : Obligations.SwitchBankIgnoresOutOfRange := by
  intro s n
  refine ⟨_, rfl, ?_⟩
  by_cases hn : n < 0 ∨ 8 ≤ n
  · rw [State.switchBank, bankIndex_eq_none hn]
    exact ⟨frame_refl _ _ s, fun _ _ => by omega, fun _ => rfl⟩
  · obtain ⟨b, hb, hval⟩ := bankIndex_eq_some (n := n) (by omega) (by omega)
    rw [State.switchBank, hb]
    exact ⟨frame_setBank s b, fun _ _ => hval, fun h => absurd h hn⟩

/-! ## loadBytes -/

/-- An address below the bank size is itself as a word (R50). -/
theorem toNat_ofNat_of_lt_bankSize {x : Nat} (h : x < Config.bankSize) : (BitVec.ofNat 16 x).toNat = x := by
  rw [BitVec.toNat_ofNat, Nat.mod_eq_of_lt (show x < 2 ^ 16 from h)]

/-- `loadBytes` stops at the end of the bank (R60). -/
theorem State.loadBytes_of_past_end {s : State} {start : Nat} (h : ¬start < Config.bankSize) (buffer : List Byte) :
    s.loadBytes start buffer = s := by
  cases buffer with
  | nil => rfl
  | cons v rest => exact if_neg h

theorem State.loadBytes_cons {s : State} {start : Nat} (h : start < Config.bankSize) (v : Byte) (rest : List Byte) :
    s.loadBytes start (v :: rest) = (s.writeByte (BitVec.ofNat 16 start) v).loadBytes (start + 1) rest := if_pos h

/-- `loadBytes` changes nothing but memory. -/
theorem State.loadBytes_eq_withMem (s : State) (start : Nat) (buffer : List Byte) :
    ∃ m, s.loadBytes start buffer = s.withMem m := by
  induction buffer generalizing s start with
  | nil => exact ⟨s.mem, rfl⟩
  | cons v rest ih =>
    by_cases h : start < Config.bankSize
    · rw [State.loadBytes_cons h]
      exact ih (s.writeByte _ v) _
    · exact ⟨s.mem, State.loadBytes_of_past_end h _⟩

/-- `loadBytes` changes no byte outside the buffer's place in the active bank. -/
theorem State.readBank_loadBytes_of_outside {s : State} (hs : s.wf = true) {start : Nat} {buffer : List Byte} {bk : Fin 8}
    {x : Word} (h : ¬(bk = s.bank ∧ start ≤ x.toNat ∧ x.toNat < start + buffer.length)) :
    (s.loadBytes start buffer).readBank bk x = s.readBank bk x := by
  induction buffer generalizing s start with
  | nil => rfl
  | cons v rest ih =>
    rw [List.length_cons] at h
    by_cases hstart : start < Config.bankSize
    · have hx : ¬(bk = s.bank ∧ x = BitVec.ofNat 16 start) := by
        rintro ⟨rfl, rfl⟩
        rw [toNat_ofNat_of_lt_bankSize hstart] at h
        exact h ⟨rfl, by omega, by omega⟩
      rw [State.loadBytes_cons hstart, ih (State.wf_writeByte hs _ _), State.readBank_writeByte hs, if_neg hx]
      rintro ⟨hb, hlo, hhi⟩
      exact h ⟨hb, by omega, by omega⟩
    · rw [State.loadBytes_of_past_end hstart]

/-- `loadBytes` puts every byte that fits at its place. -/
theorem State.readBank_loadBytes_of_fits {s : State} (hs : s.wf = true) {start i : Nat} {buffer : List Byte}
    (hi : i < buffer.length) (hfit : start + i < Config.bankSize) :
    (s.loadBytes start buffer).readBank s.bank (BitVec.ofNat 16 (start + i)) = buffer[i] := by
  induction buffer generalizing s start i with
  | nil => simp at hi
  | cons v rest ih =>
    have hstart : start < Config.bankSize := by omega
    rw [State.loadBytes_cons hstart]
    cases i with
    | zero =>
      rw [State.readBank_loadBytes_of_outside (State.wf_writeByte hs _ _), State.readBank_writeByte hs, if_pos ⟨rfl, rfl⟩]
      · rfl
      · rw [toNat_ofNat_of_lt_bankSize hfit]
        omega
    | succ j =>
      have h := ih (s := s.writeByte (BitVec.ofNat 16 start) v) (State.wf_writeByte hs _ _) (start := start + 1) (i := j)
        (by simpa using hi) (by omega)
      rw [show start + 1 + j = start + (j + 1) by omega] at h
      exact h

/-- Settles O25, by induction on the buffer: what lies in its place, and what lies outside. -/
theorem loadBytesCopiesAndTruncates : Obligations.LoadBytesCopiesAndTruncates := by
  intro s buffer start hs
  obtain ⟨m, hm⟩ := s.loadBytes_eq_withMem start.toNat buffer
  refine ⟨_, rfl, fun i hi hfit => ?_, fun bank x h => State.readBank_loadBytes_of_outside hs h, fun p => ?_⟩
  · have hbank : (s.loadBytes start.toNat buffer).bank = s.bank := by rw [hm, State.bank_withMem]
    rw [State.readByte, hbank]
    exact State.readBank_loadBytes_of_fits hs hi (Nat.lt_succ_of_le hfit)
  · rw [hm]
    exact s.same_withMem m p

end Sys2Proof.Machine

/-! PROOFS. The statements of 30_encoding.md: dispatch over the opcode values (R82) and fetch, decode and execute (R80, R81). -/

namespace Sys2Proof.Machine

/-! ## Every instruction answers a next state -/

theorem jumpIfOp_answers (c : Cond) (a : Word) (s : State) : ∃ t, jumpIfOp c a s = .next t := by
  cases h : condHolds c s.flags
  · exact ⟨_, jumpIfOp_of_not_holds h a⟩
  · exact ⟨_, jumpIfOp_of_holds h a⟩

theorem callIfOp_answers (c : Cond) (a : Word) (s : State) : ∃ t, callIfOp c a s = .next t := by
  cases h : condHolds c s.flags
  · exact ⟨_, callIfOp_of_not_holds h a⟩
  · exact ⟨_, callIfOp_of_holds h a⟩

theorem retIfOp_answers (c : Cond) (s : State) : ∃ t, retIfOp c s = .next t := by
  cases h : condHolds c s.flags
  · exact ⟨_, retIfOp_of_not_holds h⟩
  · exact ⟨_, retIfOp_of_holds h⟩

theorem outOp_answers (port : Byte) (s : State) : ∃ t, outOp port s = .next t := by
  by_cases hp : port = 254
  · subst hp
    exact ⟨_, outOp_bankPort s⟩
  · exact ⟨_, outOp_of_ne hp s⟩

/-- No instruction ends in a fault or a refusal, from any state (R300). -/
theorem exec_answers (i : Instr) (s : State) : ∃ t, exec i s = .next t := by
  cases i using Instr.byForm with
  | jcc c v => exact exec_jcc c v s ▸ jumpIfOp_answers c v s
  | ccc c v => exact exec_ccc c v s ▸ callIfOp_answers c v s
  | rcc c => exact exec_rcc c s ▸ retIfOp_answers c s
  | outPort port => exact outOp_answers port s
  | mov d k hdk => exact ⟨_, exec_mov d k hdk s⟩
  | mvi d v => exact ⟨_, exec_mvi d v s⟩
  | lxi rp v => exact ⟨_, exec_lxi rp v s⟩
  | ldax rp => exact ⟨_, exec_ldax rp s⟩
  | stax rp => exact ⟨_, exec_stax rp s⟩
  | inr k => exact ⟨_, exec_inr k s⟩
  | dcr k => exact ⟨_, exec_dcr k s⟩
  | inx rp => exact ⟨_, exec_inx rp s⟩
  | dcx rp => exact ⟨_, exec_dcx rp s⟩
  | dad rp => exact ⟨_, exec_dad rp s⟩
  | rst n => exact ⟨_, exec_rst n s⟩
  | undocumented i hu => exact ⟨_, exec_undocumented hu s⟩
  | alu op k =>
    rw [exec_alu]
    cases op <;> exact ⟨_, rfl⟩
  | aluImm op v => cases op <;> exact ⟨_, rfl⟩
  | push rp | pop rp => rcases rp with (_ | _ | _) | _ <;> exact ⟨_, rfl⟩
  | nop | rlc | rrc | ral | rar | rim | shld | daa | lhld | cma | sim | sta | stc | lda | hlt | cmc | jmp | ret | call
  | inPort | xthl | pchl | xchg | di | sphl | ei => exact ⟨_, rfl⟩

/-! ## Dispatch -/

/-- The opcode value 0x76 decodes to HLT, and no other does (R82, R293). -/
theorem decodeBytes_eq_hlt_iff (op x y : Byte) : decodeBytes op x y = .hlt ↔ op = 0x76 := by
  constructor
  · intro h
    rw [← encode_head_decodeBytes op x y, h]
    rfl
  · rintro rfl
    rfl

/-- Settles O6: every instruction answers, and HLT, decoded from 0x76 alone, is the one that writes `halted`. -/
theorem dispatchIsTotal : Obligations.DispatchIsTotal := by
  intro op x y s
  obtain ⟨t, hx⟩ := exec_answers (decodeBytes op x y) s
  refine ⟨t, hx, fun hop => ?_, fun hop => ?_⟩
  · rw [(decodeBytes_eq_hlt_iff op x y).2 hop, exec_hlt, Host.Outcome.next.injEq] at hx
    rw [← hx, State.halted_setHalted]
  · exact (exec_halted hx).resolve_left fun h => hop ((decodeBytes_eq_hlt_iff op x y).1 h.1)

/-! ## Fetch agrees with the decoder -/

/-- An instruction has as many bytes as the opcode it was decoded from says (R85). -/
theorem encode_length_decodeBytes (op x y : Byte) : (encode (decodeBytes op x y)).length = opcodeLength op := by
  refine forall_byte (P := fun op => (encode (decodeBytes op x y)).length = opcodeLength op) ?_ op
  intro n
  fin_cases n <;> rfl

/-- Fetch moves `pc` past the bytes of the fetched instruction (R81). -/
theorem State.fetchInstr_snd_eq_encode (s : State) :
    s.fetchInstr.2 = s.setPc (s.pc + BitVec.ofNat 16 (encode s.fetchInstr.1).length) := by
  rw [State.fetchInstr_snd, State.fetchInstr_fst, encode_length_decodeBytes]

/-- What decodes from the three bytes at `pc` is the fetched instruction (R80, R84). -/
theorem State.fetchInstr_fst_of_decode {s : State} {i : Instr} {rest : List Byte}
    (h : decode [s.readByte s.pc, s.readByte (s.pc + 1), s.readByte (s.pc + 2)] = .ok (i, rest)) :
    s.fetchInstr.1 = i := by
  rw [State.fetchInstr_fst]
  rcases opcodeLength_cases (s.readByte s.pc) with hl | hl | hl
  · rw [decode_of_length_one hl] at h
    cases h
    simp [hl]
  · rw [decode_of_length_two hl] at h
    cases h
    simp [hl]
  · rw [decode_of_length_three hl] at h
    cases h
    simp [hl]

/-- Settles O5: fetch answers the decoded instruction, with `pc` past its bytes. -/
theorem stepRunsDecodedInstruction : Obligations.StepRunsDecodedInstruction := by
  refine fun s => ⟨step_of_halted, fun hs i rest h => ?_⟩
  rw [step_of_running hs, State.fetchInstr_snd_eq_encode, State.fetchInstr_fst_of_decode h]

end Sys2Proof.Machine

/-! PROOFS. The statements of 40_alu.md: parity (R114), the addition of ADD, ADC, ADI and ACI (R110), the auxiliary-carry
quirk (R116) and the logical operations (R113). -/

namespace Sys2Proof.Machine

/-! ## Parity -/

/-- The model's count of the 1 bits is the size of the set of their positions (R114). -/
theorem onesCount_eq_card (v : Byte) :
    onesCount v = (Finset.univ.filter (fun i : Fin 8 => v.getLsbD i.val = true)).card := by
  calc onesCount v
      = Nat.count (fun i => v.getLsbD i = true) 8 := by simp [onesCount, Nat.count, List.countP_eq_length_filter]
    _ = ((Finset.range 8).filter (fun i => v.getLsbD i = true)).card := Nat.count_eq_card_filter_range _ _
    _ = (Finset.univ.filter (fun i : Fin 8 => v.getLsbD i.val = true)).card := by
      rw [Finset.card_filter, Finset.card_filter,
        Fin.sum_univ_eq_sum_range (fun i => if v.getLsbD i = true then 1 else 0)]

theorem parity_eq_true_iff (v : Byte) : parity v = true ↔ Even (onesCount v) := by
  rw [parity, beq_iff_eq, Nat.even_iff]

/-- Settles O19: the model counts the 1 bits, and parity says whether the count is even. -/
theorem parityIsEvenNumberOfOnes : Obligations.ParityIsEvenNumberOfOnes := by
  refine ⟨fun v => ?_, rfl, rfl, rfl⟩
  rw [parity_eq_true_iff, onesCount_eq_card]

/-! ## The encoding of the ALU instructions -/

/-- An ALU instruction of a location: the operation field and the location field (R89, R92). -/
theorem encode_alu (op : AluOp) (k : Loc) : encode (aluInstr op k) = [0b10#2 ++ op.code ++ k.code] := by
  cases op <;> rcases k with (_ | _ | _ | _ | _ | _ | _) | _ <;> rfl

/-- An ALU instruction of an immediate byte: the operation field, then the byte (R92). -/
theorem encode_aluImm (op : AluOp) (v : Byte) : encode (aluImmInstr op v) = [0b11#2 ++ op.code ++ 0b110#3, v] := by
  cases op <;> rfl

/-! ## What the shared operations do -/

/-- The number of a boolean (R11). -/
theorem bit_eq_toNat (b : Bool) : bit b = b.toNat := by cases b <;> rfl

@[simp] theorem flags_accAdd (v : Byte) (w : Bool) (s : State) : (accAdd v w s).flags = (aluAdd s.a v w s.flags).2 := rfl
@[simp] theorem flags_accSub (v : Byte) (w : Bool) (s : State) : (accSub v w s).flags = (aluSub s.a v w s.flags).2 := rfl

/-- A write of A and of the flags changes nothing else. -/
theorem frame_setReg_A_setFlags (s : State) (r : Byte) (f : Flags) :
    Frame (.reg .A :: allFlags) [] s ((s.setReg .A r).setFlags f) := by
  refine ⟨fun p hp => ?_, memorySameBut_of_readBank (by simp) _⟩
  cases p with
  | reg q => simp_all [Part.Same, State.getReg_setReg, allFlags]
  | flagS | flagZ | flagAC | flagP | flagCY => simp [allFlags] at hp
  | _ => simp [Part.Same]

theorem accAdd_effect (v : Byte) (w : Bool) (s : State) : AddEffect v w s (accAdd v w s) := by
  obtain ⟨hs, hz, hp, hcy, hac⟩ := aluAdd_flags s.a v w s.flags
  refine ⟨aluAdd_toNat s.a v w s.flags, ?_, ?_, ⟨hs, ?_, hp⟩, frame_setReg_A_setFlags s _ _⟩
  · exact (Bool.eq_iff_iff.1 hcy).trans decide_eq_true_iff
  · exact (Bool.eq_iff_iff.1 hac).trans decide_eq_true_iff
  · exact (Bool.eq_iff_iff.1 hz).trans beq_iff_eq

theorem accLogical_effect (r : Byte) (s : State) : LogicEffect r s (accLogical r s) :=
  ⟨rfl, rfl, rfl, ⟨Flags.logical_s s.flags r, beq_iff_eq, rfl⟩, frame_setReg_A_setFlags s _ _⟩

/-! ## Addition -/

/-- Settles O38: each form runs `accAdd`, whose effect is the exact sum. -/
theorem addInstructions : Obligations.AddInstructions := by
  exact ⟨fun k s => ⟨encode_alu .ADD k, _, exec_alu .ADD k s, accAdd_effect _ _ s⟩,
    fun k s => ⟨encode_alu .ADC k, _, exec_alu .ADC k s, accAdd_effect _ _ s⟩,
    fun v s => ⟨encode_aluImm .ADD v, _, exec_aluImm .ADD v s, accAdd_effect _ _ s⟩,
    fun v s => ⟨encode_aluImm .ADC v, _, exec_aluImm .ADC v s, accAdd_effect _ _ s⟩⟩

/-! ## The auxiliary-carry quirk -/

/-- What both forms of an ALU operation answer, of a location and of a byte, when each answers `f` of its operand. -/
theorem eq_of_exec_alu {op : AluOp} {f : Byte → State} {s t : State} {v : Byte}
    (hloc : ∀ k, exec (aluInstr op k) s = .next (f (s.readLoc k))) (himm : exec (aluImmInstr op v) s = .next (f v))
    (h : (∃ k, v = s.readLoc k ∧ exec (aluInstr op k) s = .next t) ∨ exec (aluImmInstr op v) s = .next t) :
    t = f v := by
  rcases h with ⟨k, rfl, h⟩ | h
  · exact Host.Outcome.next.inj (h.symm.trans (hloc k))
  · exact Host.Outcome.next.inj (h.symm.trans himm)

/-- The half-carry is computed with the carry after (R110, R116). -/
theorem accAdd_true_ac (v : Byte) (s : State) :
    (accAdd v true s).flags.ac
      = decide (15 < s.a.toNat % 16 + v.toNat % 16 + (accAdd v true s).flags.cy.toNat) := by
  obtain ⟨-, -, -, -, hac⟩ := aluAdd_flags s.a v true s.flags
  rw [flags_accAdd, hac, Bool.true_and, bit_eq_toNat, lowNibble, lowNibble]

/-- The half-borrow is computed with the borrow after (R111, R116; the nibble borrow is D9). -/
theorem accSub_true_ac (v : Byte) (s : State) :
    (accSub v true s).flags.ac
      = decide (s.a.toNat % 16 < v.toNat % 16 + (accSub v true s).flags.cy.toNat) := by
  obtain ⟨-, -, -, -, hac⟩ := aluSub_flags s.a v true s.flags
  rw [flags_accSub, hac, Bool.true_and, bit_eq_toNat, lowNibble, lowNibble, decide_eq_decide]
  omega

/-- Adding another carry to `n` moves it past the bound `m` exactly when `n` is at the bound. -/
theorem decide_lt_add_toNat_ne_iff (m n : Nat) (c c' : Bool) :
    decide (m < n + c'.toNat) ≠ decide (m < n + c.toNat) ↔ c' ≠ c ∧ n = m := by
  rw [ne_eq, decide_eq_decide]
  cases c <;> cases c' <;> simp <;> omega

/-- Settles O40: AC takes the carry just written, and one more carry matters only at the nibble boundary. -/
theorem auxiliaryCarryQuirk : Obligations.AuxiliaryCarryQuirk := by
  refine ⟨fun s t v h => ?_, fun s t v h => ?_⟩
  · obtain rfl : t = accAdd v true s :=
      eq_of_exec_alu (f := (accAdd · true s)) (fun k => exec_alu .ADC k s) (exec_aluImm .ADC v s) h
    refine ⟨accAdd_true_ac v s, ?_⟩
    rw [accAdd_true_ac]
    exact decide_lt_add_toNat_ne_iff _ _ _ _
  · obtain rfl : t = accSub v true s :=
      eq_of_exec_alu (f := (accSub · true s)) (fun k => exec_alu .SBB k s) (exec_aluImm .SBB v s) h
    refine ⟨accSub_true_ac v s, ?_⟩
    rw [accSub_true_ac, eq_comm (a := s.a.toNat % 16)]
    exact decide_lt_add_toNat_ne_iff _ _ _ _

/-! ## The logical operations -/

/-- Settles O46: each form runs `accLogical` on the bitwise result. -/
theorem logicalInstructions : Obligations.LogicalInstructions := by
  exact ⟨fun k s => ⟨encode_alu .ANA k, _, exec_alu .ANA k s, accLogical_effect _ s⟩,
    fun k s => ⟨encode_alu .XRA k, _, exec_alu .XRA k s, accLogical_effect _ s⟩,
    fun k s => ⟨encode_alu .ORA k, _, exec_alu .ORA k s, accLogical_effect _ s⟩,
    fun v s => ⟨encode_aluImm .ANA v, _, exec_aluImm .ANA v s, accLogical_effect _ s⟩,
    fun v s => ⟨encode_aluImm .XRA v, _, exec_aluImm .XRA v s, accLogical_effect _ s⟩,
    fun v s => ⟨encode_aluImm .ORA v, _, exec_aluImm .ORA v s, accLogical_effect _ s⟩⟩

end Sys2Proof.Machine

/-! PROOFS. The statements of 41_transfer.md: the moves and MVI (R141 to R145), the loads and stores of A (R147, R148, R151,
R152), LHLD and SHLD (R149, R150) and XCHG (R153). -/

namespace Sys2Proof.Machine

/-! ## The encoding of the transfer instructions -/

/-- A move: the destination field and the source field; the slot MOV M,M is HLT (R89, R99). -/
theorem encode_mov (d k : Loc) (h : ¬(d = .M ∧ k = .M)) : encode (movInstr d k) = [0b01#2 ++ d.code ++ k.code] := by
  rcases d with (_ | _ | _ | _ | _ | _ | _) | _ <;> rcases k with (_ | _ | _ | _ | _ | _ | _) | _
  case M.M => exact absurd ⟨rfl, rfl⟩ h
  all_goals rfl

theorem encode_mvi (d : Loc) (v : Byte) : encode (mviInstr d v) = [0b00#2 ++ d.code ++ 0b110#3, v] := by
  rcases d with (_ | _ | _ | _ | _ | _ | _) | _ <;> rfl

theorem encode_ldax (rp : IndPair) : encode (ldaxInstr rp) = [0b00#2 ++ rp.code ++ 0b1010#4] := by cases rp <;> rfl

theorem encode_stax (rp : IndPair) : encode (staxInstr rp) = [0b00#2 ++ rp.code ++ 0b0010#4] := by cases rp <;> rfl

/-! ## Writes read back, and their frames -/

theorem State.getReg_setReg_self (s : State) (r : Reg) (v : Byte) : (s.setReg r v).getReg r = v := by
  rw [State.getReg_setReg, if_pos rfl]

theorem State.readByte_writeByte_self {s : State} (hs : s.wf = true) (x : Word) (v : Byte) :
    (s.writeByte x v).readByte x = v := by
  rw [State.readByte_writeByte hs, if_pos rfl]

/-- A written location holds what was written, M at the old HL (R89). -/
theorem locHolds_writeLoc {s : State} (hs : s.wf = true) (k : Loc) (v : Byte) : LocHolds k v s (s.writeLoc k v) := by
  cases k with
  | reg r => exact s.getReg_setReg_self r v
  | M => exact State.readByte_writeByte_self hs _ v

/-- A location write's frame: its register, or the byte at HL for M (R89). -/
theorem frame_writeLoc {s : State} (hs : s.wf = true) (k : Loc) (v : Byte) :
    Frame (locParts k) (locStored s k) s (s.writeLoc k v) := by
  cases k with
  | reg r => exact frame_setReg s r v
  | M => exact frame_writeByte hs _ v

theorem same_trans {p : Part} {s t u : State} (h : p.Same s t) (h' : p.Same t u) : p.Same s u := by
  cases p <;> exact Eq.trans h' h

/-- Two changes in a row, the first of which keeps the active bank. -/
theorem frame_trans {changed changed' : List Part} {stored stored' : List Word} {s t u : State} (h : Frame changed stored s t)
    (h' : Frame changed' stored' t u) (hbank : t.bank = s.bank) :
    Frame (changed ++ changed') (stored ++ stored') s u := by
  obtain ⟨hsame, hmem⟩ := h
  obtain ⟨hsame', hmem'⟩ := h'
  refine ⟨fun p hp => ?_, fun bk x hx => ?_⟩
  · rw [List.mem_append, not_or] at hp
    exact same_trans (hsame p hp.1) (hsame' p hp.2)
  · rw [List.mem_append] at hx
    exact (hmem' bk x fun hk => hx ⟨hk.1.trans hbank, .inr hk.2⟩).trans (hmem bk x fun hk => hx ⟨hk.1, .inl hk.2⟩)

/-- A 16-bit store's frame: its two bytes, wrapping (R55, R56). -/
theorem frame_writeWord {s : State} (hs : s.wf = true) (addr v : Word) :
    Frame [] [addr, addr + 1] s (s.writeWord addr v) :=
  frame_trans (frame_writeByte hs addr _) (frame_writeByte (State.wf_writeByte hs addr _) (addr + 1) _) rfl

/-! ## MOV and MVI -/

/-- Settles O29: the move writes the destination register with the source register. -/
theorem movRegisterToRegister : Obligations.MovRegisterToRegister := by
  intro d r s
  exact ⟨encode_mov (.reg d) (.reg r) (by simp), _, exec_mov _ _ (by simp) s, s.getReg_setReg_self d _, frame_setReg s d _⟩

/-- Settles O30: the move writes the destination register with the byte at HL. -/
theorem movMemoryToRegister : Obligations.MovMemoryToRegister := by
  intro d s
  exact ⟨encode_mov (.reg d) .M (by simp), _, exec_mov _ _ (by simp) s, s.getReg_setReg_self d _, frame_setReg s d _⟩

/-- Settles O31: the move writes location M with the register. -/
theorem movRegisterToMemory : Obligations.MovRegisterToMemory := by
  intro r s hs
  exact ⟨encode_mov .M (.reg r) (by simp), _, exec_mov _ _ (by simp) s, locHolds_writeLoc hs .M _, frame_writeLoc hs .M _⟩

/-- Settles O32: MVI writes a location with its byte. -/
theorem mviLoadsImmediate : Obligations.MviLoadsImmediate := by
  intro d v s hs
  exact ⟨encode_mvi d v, _, exec_mvi d v s, locHolds_writeLoc hs d v, frame_writeLoc hs d v⟩

/-! ## Loads and stores of A and of HL -/

/-- Settles O34: both write A with a byte of memory. -/
theorem ldaLdaxLoadAccumulator : Obligations.LdaLdaxLoadAccumulator := by
  exact ⟨fun _ s => ⟨rfl, _, rfl, s.getReg_setReg_self .A _, frame_setReg s .A _⟩,
    fun rp s => ⟨encode_ldax rp, _, exec_ldax rp s, s.getReg_setReg_self .A _, frame_setReg s .A _⟩⟩

/-- Settles O35: both store A at one address. -/
theorem staStaxStoreAccumulator : Obligations.StaStaxStoreAccumulator := by
  exact ⟨fun addr _ hs => ⟨rfl, _, rfl, State.readByte_writeByte_self hs addr _, frame_writeByte hs addr _⟩,
    fun rp s hs =>
      ⟨encode_stax rp, _, exec_stax rp s, State.readByte_writeByte_self hs _ _, frame_writeByte hs _ _⟩⟩

/-- Settles O36: LHLD writes HL with a word of memory, and SHLD stores HL as one. -/
theorem lhldShldMoveHl : Obligations.LhldShldMoveHl := by
  refine ⟨fun _ s => ⟨rfl, _, rfl, loByte_joinBytes _ _, hiByte_joinBytes _ _, frame_setPair s .HL _⟩,
    fun addr s hs => ⟨rfl, _, rfl, ?_, ?_, frame_writeWord hs addr _⟩⟩
  · rw [State.readByte_writeWord hs, if_neg (add_one_ne addr).symm, if_pos rfl]
    exact loByte_joinBytes _ _
  · rw [State.readByte_writeWord hs, if_pos rfl]
    exact hiByte_joinBytes _ _

/-! ## XCHG -/

/-- XCHG by its four registers (R153). -/
theorem exec_xchg (s : State) : exec .xchg s = .next { s with h := s.d, l := s.e, d := s.h, e := s.l } := by
  change xchgOp s = _
  simp [xchgOp, State.setPair, State.setReg, pairHigh, pairLow]

/-- Settles O37: XCHG is a write of HL and then of DE, and swapping four registers twice puts them back. -/
theorem xchgSwapsHlAndDe : Obligations.XchgSwapsHlAndDe := by
  refine ⟨rfl, fun s => ⟨_, exec_xchg s, rfl, rfl, rfl, rfl, ?_, exec_xchg _⟩⟩
  rw [← Host.Outcome.next.inj (exec_xchg s)]
  exact frame_trans (frame_setPair s .HL _) (frame_setPair _ .DE _) rfl

end Sys2Proof.Machine

/-! PROOFS. The statements of 42_arithmetic.md on subtraction (R172, R173, R176, R177), INR and DCR (R178 to R180) and INX and
DCX (R181, R182). -/

namespace Sys2Proof.Machine

/-! ## The encoding of the counting instructions -/

theorem encode_inr (k : Loc) : encode (inrInstr k) = [0b00#2 ++ k.code ++ 0b100#3] := by
  rcases k with (_ | _ | _ | _ | _ | _ | _) | _ <;> rfl

theorem encode_dcr (k : Loc) : encode (dcrInstr k) = [0b00#2 ++ k.code ++ 0b101#3] := by
  rcases k with (_ | _ | _ | _ | _ | _ | _) | _ <;> rfl

theorem encode_inx (rp : RegPair) : encode (inxInstr rp) = [0b00#2 ++ rp.code ++ 0b0011#4] := by
  rcases rp with (_ | _ | _) | _ <;> rfl

theorem encode_dcx (rp : RegPair) : encode (dcxInstr rp) = [0b00#2 ++ rp.code ++ 0b1011#4] := by
  rcases rp with (_ | _ | _) | _ <;> rfl

/-! ## Subtraction -/

/-- The borrow says that what is taken away is the greater (R111). -/
theorem aluSub_cy_iff (acc v : Byte) (w : Bool) (f : Flags) :
    (aluSub acc v w f).2.cy = true ↔ acc.toNat < v.toNat + bit (w && f.cy) := by
  obtain ⟨-, -, -, hcy, -⟩ := aluSub_flags acc v w f
  rw [hcy, decide_eq_true_iff]
  omega

/-- The nibble borrow, with the borrow just written (R116, D9). -/
theorem aluSub_ac_iff (acc v : Byte) (w : Bool) (f : Flags) :
    (aluSub acc v w f).2.ac = true ↔
      acc.toNat % 16 < v.toNat % 16 + bit (w && (aluSub acc v w f).2.cy) := by
  obtain ⟨-, -, -, -, hac⟩ := aluSub_flags acc v w f
  rw [hac, decide_eq_true_iff, lowNibble, lowNibble]
  omega

theorem accSub_effect (v : Byte) (w : Bool) (s : State) : SubEffect v w s (accSub v w s) := by
  obtain ⟨hs, hz, hp, -, -⟩ := aluSub_flags s.a v w s.flags
  have hdiff := aluSub_toNat s.a v w s.flags
  rw [Int.sub_sub, ← Int.natCast_add] at hdiff
  exact ⟨hdiff, aluSub_cy_iff s.a v w s.flags, aluSub_ac_iff s.a v w s.flags,
    ⟨hs, (Bool.eq_iff_iff.1 hz).trans beq_iff_eq, hp⟩, frame_setReg_A_setFlags s _ _⟩

/-- Settles O39: each form runs `accSub`, whose effect is the exact difference. -/
theorem subtractInstructions : Obligations.SubtractInstructions := by
  exact ⟨fun k s => ⟨encode_alu .SUB k, _, exec_alu .SUB k s, accSub_effect _ _ s⟩,
    fun k s => ⟨encode_alu .SBB k, _, exec_alu .SBB k s, accSub_effect _ _ s⟩,
    fun v s => ⟨encode_aluImm .SUB v, _, exec_aluImm .SUB v s, accSub_effect _ _ s⟩,
    fun v s => ⟨encode_aluImm .SBB v, _, exec_aluImm .SBB v s, accSub_effect _ _ s⟩⟩

/-! ## INR and DCR -/

theorem locHolds_setFlags (k : Loc) (v : Byte) (s t : State) (f : Flags) :
    LocHolds k v s (t.setFlags f) ↔ LocHolds k v s t := by
  cases k <;> simp [LocHolds]

theorem resultFlags_setFlags_arithmetic (s : State) (f : Flags) (r : Byte) :
    ResultFlags r (s.setFlags (f.arithmetic r)) :=
  ⟨f.arithmetic_s r, beq_iff_eq, rfl⟩

/-- `updateFlagsArithmetic` writes S, Z and P, and neither CY nor AC (R112). -/
theorem frame_setFlags_arithmetic (s : State) (r : Byte) :
    Frame [.flagS, .flagZ, .flagP] [] s (s.setFlags (s.flags.arithmetic r)) := by
  refine ⟨fun p hp => ?_, memorySameBut_of_readBank (by simp) _⟩
  cases p with
  | flagS | flagZ | flagP => simp at hp
  | _ => simp [Part.Same]

/-- A location write with the flags of its result, as INR and DCR do it (R178, R179): CY and AC are in the frame (D24). -/
theorem writeLoc_setFlags_arithmetic_effect {s : State} (hs : s.wf = true) (k : Loc) (r : Byte) :
    let t := (s.writeLoc k r).setFlags (s.flags.arithmetic r)
    LocHolds k r s t ∧ ResultFlags r t ∧ Frame (locParts k ++ [.flagS, .flagZ, .flagP]) (locStored s k) s t := by
  have hframe := frame_trans (frame_writeLoc hs k r) (frame_setFlags_arithmetic (s.writeLoc k r) r) (s.bank_writeLoc k r)
  rw [State.flags_writeLoc, List.append_nil] at hframe
  exact ⟨(locHolds_setFlags ..).2 (locHolds_writeLoc hs k r), resultFlags_setFlags_arithmetic _ _ r, hframe⟩

/-- Settles O41: both write the location and the flags of the result. -/
theorem inrDcrKeepCarries : Obligations.InrDcrKeepCarries := by
  exact ⟨fun k s hs => ⟨encode_inr k, _, exec_inr k s, writeLoc_setFlags_arithmetic_effect hs k _⟩,
    fun k s hs => ⟨encode_dcr k, _, exec_dcr k s, writeLoc_setFlags_arithmetic_effect hs k _⟩⟩

/-! ## INX and DCX -/

theorem State.readRp_writeRp_self (s : State) (rp : RegPair) (v : Word) : (s.writeRp rp v).readRp rp = v := by
  cases rp with
  | pair p => exact s.getPair_setPair p v
  | SP => rfl

/-- An `rp` write's frame: the two registers of the pair, or SP (R90). -/
theorem frame_writeRp (s : State) (rp : RegPair) (v : Word) : Frame (rpParts rp) [] s (s.writeRp rp v) := by
  cases rp with
  | pair p => exact frame_setPair s p v
  | SP => exact frame_setSp s v

/-- Settles O42: both write the pair or SP alone. -/
theorem inxDcxCountPairs : Obligations.InxDcxCountPairs := by
  exact ⟨fun rp s => ⟨encode_inx rp, _, exec_inx rp s, s.readRp_writeRp_self rp _, frame_writeRp s rp _⟩,
    fun rp s => ⟨encode_dcx rp, _, exec_dcx rp s, s.readRp_writeRp_self rp _, frame_writeRp s rp _⟩⟩

end Sys2Proof.Machine

/-! PROOFS. The statements of 43_logical.md on compare (R203, R207), the rotates (R208 to R211) and CMA, STC and CMC (R212 to
R214). The logical operations (R200 to R202, R204 to R206) are with their flags (R113) under 40_alu.md. -/

namespace Sys2Proof.Machine

/-! ## Writes of flags -/

theorem frame_setFlags (s : State) (f : Flags) : Frame allFlags [] s (s.setFlags f) := by
  refine ⟨fun p hp => ?_, memorySameBut_of_readBank (by simp) _⟩
  cases p with
  | flagS | flagZ | flagAC | flagP | flagCY => simp [allFlags] at hp
  | _ => simp [Part.Same]

theorem frame_setCy (s : State) (cy : Bool) : Frame [.flagCY] [] s (s.setCy cy) := by
  refine ⟨fun p hp => ?_, memorySameBut_of_readBank (by simp) _⟩
  cases p with
  | flagCY => simp at hp
  | _ => simp [Part.Same]

/-- What a rotate writes (R208 to R211). -/
theorem frame_setReg_A_setCy (s : State) (r : Byte) (cy : Bool) :
    Frame [.reg .A, .flagCY] [] s ((s.setReg .A r).setCy cy) :=
  frame_trans (frame_setReg s .A r) (frame_setCy _ cy) rfl

/-! ## Compare -/

/-- Without an incoming borrow the result of `sub` is the difference of the bytes (R111). -/
theorem aluSub_false_fst (acc v : Byte) (f : Flags) : (aluSub acc v false f).1 = acc - v := by
  have hdiff := aluSub_toNat acc v false f
  rw [Bool.false_and, bit_eq_toNat, Bool.toNat_false] at hdiff
  bv_omega

theorem accCmp_effect (v : Byte) (s : State) : CompareEffect v s (accCmp v s) := by
  obtain ⟨hs, hz, hp, -, -⟩ := aluSub_flags s.a v false s.flags
  rw [aluSub_false_fst] at hs hz hp
  have hzero : s.a - v = 0 ↔ s.a = v := sub_eq_zero
  exact ⟨((Bool.eq_iff_iff.1 hz).trans beq_iff_eq).trans hzero, aluSub_cy_iff s.a v false s.flags,
    aluSub_ac_iff s.a v false s.flags, hs, hp, frame_setFlags s _⟩

/-- Settles O47: each form runs `accCmp`, which writes the flags of the difference and discards it. -/
theorem compareInstructions : Obligations.CompareInstructions := by
  exact ⟨fun k s => ⟨encode_alu .CMP k, _, exec_alu .CMP k s, accCmp_effect _ s⟩,
    fun v s => ⟨encode_aluImm .CMP v, _, exec_aluImm .CMP v s, accCmp_effect _ s⟩⟩

/-! ## Rotates

Each rotate is one shift with a bit `c` put in at the free end: RLC and RRC put in the bit that left, RAL and RAR the old CY. -/

/-- The left shift of RLC and RAL takes `c` in at bit 0 (R208, R210). -/
theorem getLsbD_shiftLeft_or_bit (a : Byte) (c : Bool) (i : Nat) :
    (a <<< 1 ||| BitVec.ofNat 8 (bit c)).getLsbD i = (decide (i < 8) && if i = 0 then c else a.getLsbD (i - 1)) := by
  have hbit : BitVec.ofNat 8 (bit c) = (BitVec.ofBool c).setWidth 8 := by cases c <;> rfl
  rw [hbit]
  rcases i with _ | i <;> simp

/-- The right shift of RRC and RAR takes `c` in at bit 7 (R209, R211). -/
theorem getLsbD_shiftRight_or_bit (a : Byte) (c : Bool) (i : Nat) :
    (a >>> 1 ||| BitVec.ofNat 8 (bit c * 0x80)).getLsbD i = if i = 7 then c else a.getLsbD (i + 1) := by
  have hbit : BitVec.ofNat 8 (bit c * 0x80) = (BitVec.ofBool c).setWidth 8 <<< 7 := by cases c <;> rfl
  rw [hbit]
  obtain rfl | hlt | hge : i = 7 ∨ i < 7 ∨ 8 ≤ i := by omega
  · simp
  · simp [hlt, hlt.ne, Nat.add_comm]
  · have hne : i ≠ 7 := by omega
    simp [hge.not_gt, hne, Nat.add_comm]

/-- RLC's shift takes in the bit it puts out (R208). -/
theorem shiftLeft_or_bit_msb (a : Byte) : a <<< 1 ||| BitVec.ofNat 8 (bit (a.getLsbD 7)) = a.rotateLeft 1 := by
  refine BitVec.eq_of_getLsbD_eq fun i hi => ?_
  rw [getLsbD_shiftLeft_or_bit, BitVec.getLsbD_rotateLeft]
  rcases i with _ | i <;> simp [hi]

/-- RRC's shift takes in the bit it puts out (R209). -/
theorem shiftRight_or_bit_lsb (a : Byte) : a >>> 1 ||| BitVec.ofNat 8 (bit (a.getLsbD 0) * 0x80) = a.rotateRight 1 := by
  refine BitVec.eq_of_getLsbD_eq fun i hi => ?_
  rw [getLsbD_shiftRight_or_bit, BitVec.getLsbD_rotateRight]
  obtain rfl | hlt : i = 7 ∨ i < 7 := by omega
  · simp
  · simp [hlt, hlt.ne, Nat.add_comm]

/-- RAL's shift is a rotation of the nine bits CY:A (R210). -/
theorem append_shiftLeft_or_bit (a : Byte) (c : Bool) :
    BitVec.ofBool (a.getLsbD 7) ++ (a <<< 1 ||| BitVec.ofNat 8 (bit c)) = (BitVec.ofBool c ++ a).rotateLeft 1 := by
  refine BitVec.eq_of_getLsbD_eq fun i hi => ?_
  rw [BitVec.getLsbD_append, getLsbD_shiftLeft_or_bit, BitVec.getLsbD_rotateLeft]
  simp only [BitVec.getLsbD_append, BitVec.getLsbD_ofBool]
  obtain rfl | rfl | ⟨hpos, hlt⟩ : i = 0 ∨ i = 8 ∨ 0 < i ∧ i < 8 := by omega
  · simp
  · simp
  · have hlt' : i - 1 < 8 := by omega
    simp [hi, hlt, hlt', hpos.ne']

/-- RAR's shift is a rotation of the nine bits CY:A (R211). -/
theorem append_shiftRight_or_bit (a : Byte) (c : Bool) :
    BitVec.ofBool (a.getLsbD 0) ++ (a >>> 1 ||| BitVec.ofNat 8 (bit c * 0x80)) = (BitVec.ofBool c ++ a).rotateRight 1 := by
  refine BitVec.eq_of_getLsbD_eq fun i hi => ?_
  rw [BitVec.getLsbD_append, getLsbD_shiftRight_or_bit, BitVec.getLsbD_rotateRight]
  simp only [BitVec.getLsbD_append, BitVec.getLsbD_ofBool]
  obtain rfl | rfl | hlt : i = 8 ∨ i = 7 ∨ i < 7 := by omega
  · simp
  · simp
  · have hlt' : i < 8 := by omega
    simp [hlt', hlt.ne, hlt.not_ge, Nat.add_comm]

/-- Settles O48: each rotate writes A with its shift and CY with the bit that left. -/
theorem rotateInstructions : Obligations.RotateInstructions := by
  exact ⟨⟨rfl, rfl, rfl, rfl⟩, fun s =>
    ⟨⟨_, rfl, shiftLeft_or_bit_msb s.a, getLsbD_seven s.a, frame_setReg_A_setCy s _ _⟩,
      ⟨_, rfl, shiftRight_or_bit_lsb s.a, rfl, frame_setReg_A_setCy s _ _⟩,
      ⟨_, rfl, append_shiftLeft_or_bit s.a s.flags.cy, frame_setReg_A_setCy s _ _⟩,
      ⟨_, rfl, append_shiftRight_or_bit s.a s.flags.cy, frame_setReg_A_setCy s _ _⟩⟩⟩

/-! ## CMA, STC and CMC -/

/-- Settles O49: CMA writes A alone with its complement, STC and CMC write CY alone. -/
theorem complementAndCarryInstructions : Obligations.ComplementAndCarryInstructions := by
  exact ⟨⟨rfl, rfl, rfl⟩, fun s =>
    ⟨⟨_, rfl, BitVec.toNat_not, frame_setReg s .A _⟩, ⟨_, rfl, rfl, frame_setCy s _⟩, ⟨_, rfl, rfl, frame_setCy s _⟩⟩⟩

end Sys2Proof.Machine

/-! PROOFS. The statements of 44_branch.md: the jumps (R230 to R240), the calls (R241 to R250), the returns (R251 to R260), RST
(R261) and PCHL (R262). -/

namespace Sys2Proof.Machine

/-! ## The encoding of the branch instructions -/

theorem encode_jcc (c : Cond) (a : Word) : encode (jccInstr c a) = [0b11#2 ++ c.code ++ 0b010#3, loByte a, hiByte a] := by
  cases c <;> rfl

theorem encode_ccc (c : Cond) (a : Word) : encode (cccInstr c a) = [0b11#2 ++ c.code ++ 0b100#3, loByte a, hiByte a] := by
  cases c <;> rfl

theorem encode_rcc (c : Cond) : encode (rccInstr c) = [0b11#2 ++ c.code ++ 0b000#3] := by cases c <;> rfl

theorem encode_rst (n : BitVec 3) : encode (rstInstr n) = [0b11#2 ++ n ++ 0b111#3] := by
  revert n
  decide

/-! ## A push -/

/-- A push's frame: SP and the two bytes below it (R270). -/
theorem frame_push16 {s : State} (hs : s.wf = true) (v : Word) :
    Frame [.sp] [s.sp - 1, s.sp - 2] s (s.push16 v) := by
  rw [State.push16_eq]
  have hstores := frame_trans (frame_writeByte hs (s.sp - 1) (hiByte v))
    (frame_writeByte (State.wf_writeByte hs _ _) (s.sp - 2) (loByte v)) rfl
  exact frame_trans hstores (frame_setSp _ _) rfl

theorem pushEffect_push16 {s : State} (hs : s.wf = true) (v : Word) : PushEffect v s (s.push16 v) := by
  have hne : s.sp - 1 ≠ s.sp - 2 := by bv_omega
  refine ⟨s.sp_push16 v, ?_, ?_, (frame_push16 hs v).2⟩
  · rw [State.readByte_push16 hs, if_neg hne, if_pos rfl]
  · rw [State.readByte_push16 hs, if_pos rfl]

/-! ## Taken and not taken -/

/-- An operation under a condition: its effect when the condition holds, no change when it does not (R242, R252). -/
theorem answers_ite_next (b : Bool) {r : Result} {P : State → Prop} (h : Answers r P) (s : State) :
    Answers (if b then r else .next s) fun t => (b = true → P t) ∧ (b = false → t = s) := by
  cases b with
  | false => exact ⟨s, rfl, nofun, fun _ => rfl⟩
  | true =>
    obtain ⟨t, hr, ht⟩ := h
    exact ⟨t, hr, fun _ => ht, nofun⟩

/-! ## Jumps -/

/-- Settles O50: a taken jump writes `pc` alone, one that is not taken writes nothing. -/
theorem jumpInstructions : Obligations.JumpInstructions := by
  refine ⟨fun _ => ⟨rfl, rfl, rfl, rfl, rfl, rfl, rfl, rfl⟩, fun a s => ⟨rfl, _, rfl, rfl, frame_setPc s a⟩,
    fun c a s => ⟨encode_jcc c a, ?_⟩⟩
  rw [exec_jcc]
  cases h : condHolds c s.flags with
  | false => exact ⟨s, jumpIfOp_of_not_holds h a, rfl, frame_refl _ _ s⟩
  | true => exact ⟨_, jumpIfOp_of_holds h a, rfl, frame_setPc s a⟩

/-! ## Calls -/

/-- The jump of a call commutes with its push (R241). -/
theorem callOp_eq_push16_setPc (a : Word) (s : State) : callOp a s = .next ((s.setPc a).push16 s.pc) := rfl

theorem callOp_effect {s : State} (hs : s.wf = true) (a : Word) :
    Answers (callOp a s) fun t => t.pc = a ∧ PushEffect s.pc s t ∧ Frame [.pc, .sp] [s.sp - 1, s.sp - 2] s t := by
  have hs' : (s.setPc a).wf = true := hs
  exact ⟨_, callOp_eq_push16_setPc a s, State.pc_push16 .., pushEffect_push16 hs' s.pc,
    frame_trans (frame_setPc s a) (frame_push16 hs' s.pc) rfl⟩

/-- Settles O51: a taken call has the effect of `callOp`. -/
theorem callInstructions : Obligations.CallInstructions := by
  refine ⟨fun a _ hs => ⟨rfl, callOp_effect hs a⟩, fun c a s hs => ⟨encode_ccc c a, ?_⟩⟩
  rw [exec_ccc]
  exact answers_ite_next _ (callOp_effect hs a) s

/-! ## Returns -/

/-- The jump of a return commutes with the raising of SP (R251). -/
theorem retOp_eq_setSp_setPc (s : State) : retOp s = .next ((s.setPc (s.readWord s.sp)).setSp (s.sp + 2)) := by
  rw [retOp, State.pop16_eq]
  rfl

theorem retOp_effect (s : State) :
    Answers (retOp s) fun t =>
      t.pc = joinBytes (s.readByte (s.sp + 1)) (s.readByte s.sp) ∧ t.sp = s.sp + 2 ∧ Frame [.pc, .sp] [] s t :=
  ⟨_, retOp_eq_setSp_setPc s, rfl, rfl, frame_trans (frame_setPc s _) (frame_setSp _ _) rfl⟩

/-- Settles O52: a taken return has the effect of `retOp`. -/
theorem returnInstructions : Obligations.ReturnInstructions := by
  refine ⟨fun s => ⟨rfl, retOp_effect s⟩, fun c s => ⟨encode_rcc c, ?_⟩⟩
  rw [exec_rcc]
  exact answers_ite_next _ (retOp_effect s) s

/-! ## RST and PCHL -/

theorem rstTarget_toNat (n : BitVec 3) : (rstTarget n).toNat = n.toNat * 8 := by
  have hlt : n.toNat * 8 < 2 ^ 16 := by omega
  rw [rstTarget, BitVec.toNat_ofNat, Nat.mod_eq_of_lt hlt]

/-- Settles O53: RST is a call to its target, and PCHL writes `pc` alone. -/
theorem restartAndPchl : Obligations.RestartAndPchl := by
  refine ⟨fun n s hs => ⟨encode_rst n, ?_⟩, fun s => ⟨rfl, _, rfl, rfl, frame_setPc s _⟩⟩
  obtain ⟨t, hcall, hpc, heffect⟩ := callOp_effect hs (rstTarget n)
  exact ⟨t, (exec_rst n s).trans hcall, hpc ▸ rstTarget_toNat n, heffect⟩

end Sys2Proof.Machine

/-! PROOFS. The statements of 45_stack.md: PUSH and POP (R272 to R275), XTHL (R276) and SPHL (R277). -/

namespace Sys2Proof.Machine

/-! ## The encoding of PUSH and POP -/

theorem encode_push (p : Pair) : encode (pushInstr (.pair p)) = [0b11#2 ++ p.code ++ 0b0101#4] := by cases p <;> rfl

theorem encode_pop (p : Pair) : encode (popInstr (.pair p)) = [0b11#2 ++ p.code ++ 0b0001#4] := by cases p <;> rfl

/-! ## Register pairs -/

/-- POP by its two writes (R271, R273). -/
theorem popOp_eq (p : Pair) (s : State) : popOp p s = .next ((s.setSp (s.sp + 2)).setPair p (s.readWord s.sp)) := by
  rw [popOp, State.pop16_eq]

/-- A pair read into two registers: the low byte from the low address (R22, R55). -/
theorem getReg_setPair_readWord (s t : State) (p : Pair) (x : Word) :
    (t.setPair p (s.readWord x)).getReg (pairLow p) = s.readByte x ∧
    (t.setPair p (s.readWord x)).getReg (pairHigh p) = s.readByte (x + 1) := by
  cases p <;> exact ⟨loByte_joinBytes _ _, hiByte_joinBytes _ _⟩

/-- Settles O54: PUSH is `push16` of the pair, and POP writes SP and then the pair. -/
theorem pushPopPairs : Obligations.PushPopPairs := by
  refine ⟨fun p s hs => ⟨encode_push p, _, exec_push p s, pushEffect_push16 hs _, frame_push16 hs _⟩,
    fun p s => ⟨encode_pop p, _, (exec_pop p s).trans (popOp_eq p s), ?_⟩⟩
  obtain ⟨hlow, hhigh⟩ := getReg_setPair_readWord s (s.setSp (s.sp + 2)) p s.sp
  exact ⟨hlow, hhigh, State.sp_setPair .., frame_trans (frame_setSp s _) (frame_setPair _ p _) rfl⟩

/-! ## PSW -/

/-- The packed flag byte as a number: no two flags share a bit, and bit 1 is set (R33, D4). -/
theorem Flags.pack_toNat (f : Flags) :
    f.pack.toNat =
      f.s.toNat * 0x80 + f.z.toNat * 0x40 + f.ac.toNat * 0x10 + f.p.toNat * 0x04 + 0x02 + f.cy.toNat * 0x01 := by
  have := f.s.toNat_le
  have := f.z.toNat_le
  have := f.ac.toNat_le
  have := f.p.toNat_le
  have := f.cy.toNat_le
  simp only [Flags.pack, bit_eq_toNat, BitVec.toNat_ofNat]
  omega

/-- PUSH PSW stores A just below the stack pointer and the flag byte below it (R274, D2, D3). -/
theorem push16_psw_effect {s : State} (hs : s.wf = true) :
    (s.push16 s.psw).sp = s.sp - 2 ∧ (s.push16 s.psw).readByte (s.sp - 1) = s.a ∧
    (s.push16 s.psw).readByte (s.sp - 2) = s.flags.pack := by
  obtain ⟨hsp, hhigh, hlow, -⟩ := pushEffect_push16 hs s.psw
  exact ⟨hsp, hhigh.trans (hiByte_joinBytes _ _), hlow.trans (loByte_joinBytes _ _)⟩

/-- POP PSW by its three writes (R271, R275, D3). -/
theorem popPswOp_eq (s : State) :
    popPswOp s =
      .next (((s.setReg .A (s.readByte (s.sp + 1))).setSp (s.sp + 2)).setFlags (Flags.unpack (s.readByte s.sp))) := by
  rw [popPswOp, State.pop16_eq]
  simp only [State.readWord, hiByte_joinBytes, loByte_joinBytes]
  rfl

theorem popPswOp_effect (s : State) :
    Answers (popPswOp s) fun t =>
      t.a = s.readByte (s.sp + 1) ∧ t.flags = Flags.unpack (s.readByte s.sp) ∧ t.sp = s.sp + 2 ∧
      Frame ([.reg .A, .sp] ++ allFlags) [] s t :=
  have hregs := frame_trans (frame_setReg s .A (s.readByte (s.sp + 1))) (frame_setSp _ (s.sp + 2)) rfl
  ⟨_, popPswOp_eq s, rfl, rfl, rfl, frame_trans hregs (frame_setFlags _ _) rfl⟩

/-- POP PSW on a state with the stack pointer and the two bytes that PUSH PSW leaves restores what was pushed (R274, R275):
the other parts of that state do not matter. -/
theorem popPswOp_undoes_push {s u : State} (hsp : u.sp = s.sp - 2) (ha : u.readByte (s.sp - 1) = s.a)
    (hflags : u.readByte (s.sp - 2) = s.flags.pack) :
    Answers (popPswOp u) fun t => t.a = s.a ∧ t.flags = s.flags ∧ t.sp = s.sp := by
  obtain ⟨t, hpop, hta, htflags, htsp, -⟩ := popPswOp_effect u
  have hnext : u.sp + 1 = s.sp - 1 := by bv_omega
  have htop : u.sp + 2 = s.sp := by bv_omega
  rw [hnext, ha] at hta
  rw [hsp, hflags, Flags.unpack_pack] at htflags
  exact ⟨t, hpop, hta, htflags, htsp.trans htop⟩

/-- Settles O55: PUSH PSW is `push16` of A above the flag byte; A and the flags stand in memory until POP PSW reads them. -/
theorem pushPopPsw : Obligations.PushPopPsw := by
  refine ⟨fun s hs => ⟨rfl, _, rfl, ?_⟩, fun s => ⟨rfl, popPswOp_effect s⟩, fun s _ _ hs => ⟨_, rfl, ?_⟩⟩
  · obtain ⟨hsp, ha, hflags⟩ := push16_psw_effect hs
    exact ⟨hsp, ha, hflags ▸ s.flags.pack_toNat, frame_push16 hs s.psw⟩
  · obtain ⟨hsp, ha, hflags⟩ := push16_psw_effect hs
    exact popPswOp_undoes_push hsp ha hflags

/-! ## XTHL and SPHL -/

/-- A stored word reads back byte by byte (R56). -/
theorem State.readByte_writeWord_self {s : State} (hs : s.wf = true) (x v : Word) :
    (s.writeWord x v).readByte x = loByte v ∧ (s.writeWord x v).readByte (x + 1) = hiByte v := by
  simp [State.readByte_writeWord hs]

/-- Settles O56: XTHL stores HL at SP and writes HL with the word that was there; SPHL writes SP alone. -/
theorem xthlSphl : Obligations.XthlSphl := by
  refine ⟨fun s hs => ⟨rfl, _, rfl, ?_⟩, fun s => ⟨rfl, _, rfl, rfl, frame_setSp s _⟩⟩
  obtain ⟨hl, hh⟩ := getReg_setPair_readWord s (s.writeWord s.sp (s.getPair .HL)) .HL s.sp
  obtain ⟨hlow, hhigh⟩ := State.readByte_writeWord_self hs s.sp (s.getPair .HL)
  refine ⟨hl, hh, ?_, ?_, frame_trans (frame_writeWord hs s.sp _) (frame_setPair _ .HL _) rfl⟩
  · rw [State.readByte_setPair, hlow, State.getPair_HL, loByte_joinBytes]
  · rw [State.readByte_setPair, hhigh, State.getPair_HL, hiByte_joinBytes]

end Sys2Proof.Machine

/-! PROOFS. The statements of 46_io_control.md: IN (R285) and OUT (R286), the no-operations (R287, R288, R292) and EI, DI, RIM and
HLT (R289 to R291, R293). -/

namespace Sys2Proof.Machine

/-! ## The frames of the gateway and of the control booleans -/

/-- The frame of a change that stores nothing. -/
theorem frame_of_no_store {changed : List Part} {s t : State} (hparts : ∀ p, p ∈ changed ∨ p.Same s t)
    (hmem : ∀ bk x, t.readBank bk x = s.readBank bk x) : Frame changed [] s t :=
  ⟨fun p hp => (hparts p).resolve_left hp, memorySameBut_of_readBank hmem _⟩

theorem frame_countInput (s : State) : Frame [.inputCount] [] s s.countInput :=
  frame_of_no_store (fun p => by cases p <;> simp [Part.Same]) (by simp)

theorem frame_record (s : State) (ev : IoEvent) : Frame [.events] [] s (s.record ev) :=
  frame_of_no_store (fun p => by cases p <;> simp [Part.Same]) (by simp)

theorem frame_setHalted (s : State) (b : Bool) : Frame [.halted] [] s (s.setHalted b) :=
  frame_of_no_store (fun p => by cases p <;> simp [Part.Same]) (by simp)

theorem frame_setInterruptEnabled (s : State) (b : Bool) :
    Frame [.interruptEnabled] [] s (s.setInterruptEnabled b) :=
  frame_of_no_store (fun p => by cases p <;> simp [Part.Same]) (by simp)

/-- Two changes in a row, the second of which stores nothing: the first may change the active bank, as `frame_trans` does not
allow. -/
theorem frame_trans_of_no_store {changed changed' : List Part} {stored : List Word} {s t u : State}
    (h : Frame changed stored s t) (h' : Frame changed' [] t u) : Frame (changed ++ changed') stored s u := by
  obtain ⟨hsame, hmem⟩ := h
  obtain ⟨hsame', hmem'⟩ := h'
  refine ⟨fun p hp => ?_, fun bk x hx => ?_⟩
  · rw [List.mem_append, not_or] at hp
    exact same_trans (hsame p hp.1) (hsame' p hp.2)
  · exact (hmem' bk x (by simp)).trans (hmem bk x hx)

/-! ## IN -/

/-- IN with an empty read slot writes A with the fallback byte (R285, R303). -/
theorem inOp_of_empty {s : State} (h : s.readSlot = false) (port : Byte) :
    inOp port s = .next (s.setReg .A 0xFF) := by
  rw [inOp, State.ioRead_of_empty h]
  rfl

/-- IN with a present read slot writes A with the drawn byte, which is counted and recorded; the write of A commutes with both
(R285, R303). -/
theorem inOp_of_present {s : State} (h : s.readSlot = true) (port : Byte) :
    let v := Config.ioReadOracle s.inputCount port
    inOp port s = .next ((s.setReg .A v).countInput.record (.input port v)) := by
  rw [inOp, State.ioRead_of_present h]
  rfl

/-- Settles O57: an empty slot writes A alone, a present one A, the draw position and the record. -/
theorem inReadsPort : Obligations.InReadsPort := by
  refine fun port s => ⟨rfl, fun h => ⟨_, inOp_of_empty h port, rfl, frame_setReg s .A _⟩,
    fun h => ⟨_, inOp_of_present h port, rfl, rfl, rfl, ?_⟩⟩
  exact frame_trans_of_no_store (frame_trans_of_no_store (frame_setReg s .A _) (frame_countInput _)) (frame_record _ _)

/-! ## OUT -/

/-- The low 3 bits of A as a number (R286). -/
theorem bankOfA_val (s : State) : (bankOfA s).val = s.a.toNat % 8 := by
  have hlow : (s.a &&& 7).toNat = s.a.toNat % 8 := by
    rw [BitVec.toNat_and]
    exact Nat.and_two_pow_sub_one_eq_mod _ 3
  rw [bankOfA, hlow, Fin.val_ofNat, Nat.mod_mod]

/-- Settles O58: port 254 writes the bank and the record; another port writes the record, or nothing with an empty slot. -/
theorem outWritesPortOrSelectsBank : Obligations.OutWritesPortOrSelectsBank := by
  refine fun port s => ⟨rfl, ?_, fun hport hslot => ?_, fun hport hslot => ?_⟩
  · rintro rfl
    exact ⟨_, outOp_bankPort s, bankOfA_val s, rfl, frame_trans_of_no_store (frame_setBank s _) (frame_record _ _)⟩
  · refine ⟨_, (outOp_of_ne hport s).trans ?_, rfl, frame_record s _⟩
    rw [State.ioWrite_of_present hslot]
  · refine (outOp_of_ne hport s).trans ?_
    rw [State.ioWrite_of_empty hslot]

/-! ## The no-operations -/

/-- NOP (R287), SIM (R292) and the ten undocumented values (R288). -/
def noOperationInstrs : List Instr := .nop :: .sim :: undocumentedInstrs

theorem exec_of_mem_noOperationInstrs {i : Instr} (h : i ∈ noOperationInstrs) (s : State) : exec i s = .next s := by
  rw [noOperationInstrs, List.mem_cons, List.mem_cons] at h
  obtain rfl | rfl | h := h
  · rfl
  · rfl
  · exact exec_undocumented h s

/-- Their opcode values (R94, R96). -/
theorem decodeBytes_mem_noOperationInstrs :
    ∀ op ∈ ([0x00, 0x30, 0x08, 0x10, 0x18, 0x28, 0x38, 0xCB, 0xD9, 0xDD, 0xED, 0xFD] : List Byte),
      opcodeLength op = 1 ∧ decodeBytes op 0 0 ∈ noOperationInstrs := by
  decide

/-- Settles O59: each value is one byte long and decodes to a no-operation. -/
theorem noOperations : Obligations.NoOperations := by
  intro op hop
  obtain ⟨hlength, hmem⟩ := decodeBytes_mem_noOperationInstrs op hop
  exact ⟨_, hmem, decode_of_length_one hlength, exec_of_mem_noOperationInstrs hmem⟩

/-! ## EI, DI, RIM and HLT -/

/-- Settles O60: each writes one part of the state. -/
theorem controlInstructions : Obligations.ControlInstructions := by
  exact ⟨⟨rfl, rfl, rfl, rfl⟩, fun s =>
    ⟨⟨_, exec_ei s, rfl, frame_setInterruptEnabled s true⟩, ⟨_, exec_di s, rfl, frame_setInterruptEnabled s false⟩,
      ⟨_, rfl, rfl, frame_setReg s .A 0x00⟩, ⟨_, exec_hlt s, rfl, frame_setHalted s true⟩⟩⟩

end Sys2Proof.Machine

/-! PROOFS. The statement of 70_reset_and_hazards.md: a halted engine stays as it is until `reset()` (R338, with R327 and R330). -/

namespace Sys2Proof.Machine

/-! ## Runs of a halted engine -/

/-- Every step of a run from a halted engine is the step of a halted engine (R80). -/
theorem core_run_of_halted {s : State} (h : s.halted = true) (n : Nat) : core.run n s = .next s := by
  induction n with
  | zero => rfl
  | succ n ih =>
    have hstep : core.step s = .next s := step_of_halted h
    simp only [Host.Core.run, hstep, ih]

/-- A halted engine is a finished run, even without fuel (R327, D17). -/
theorem runFuel_of_halted {s : State} (h : s.halted = true) (n : Nat) : runFuel n s = .finished s := by
  unfold runFuel
  exact if_pos h

/-! ## The state after `reset()` -/

@[simp] theorem State.halted_hostReset (s : State) : s.hostReset.halted = false := rfl

@[simp] theorem State.getReg_hostReset (s : State) (r : Reg) : s.hostReset.getReg r = 0 := by cases r <;> rfl

@[simp] theorem State.readBank_hostReset (s : State) (bk : Fin 8) (x : Word) : s.hostReset.readBank bk x = 0x00 := rfl

/-! ## HLT -/

/-- Settles O8: the state HLT answers is halted, which the runs depend on alone, and `reset()` depends on no register and no
byte of it. -/
theorem haltIsTerminal : Obligations.HaltIsTerminal := by
  intro s n
  have hhalted : (s.setHalted true).halted = true := State.halted_setHalted s true
  exact ⟨_, exec_hlt s, hhalted, core_run_of_halted hhalted n, runFuel_of_halted hhalted n, _, rfl, State.halted_hostReset _,
    State.getReg_hostReset _, State.readBank_hostReset _⟩

end Sys2Proof.Machine

/-! PROOFS. The statements of 30_encoding.md on the opcode map: `decode` and `encode` undo each other (R84 to R94), and `decode`
fails only on a list that ends too early (R82, R97). -/

namespace Sys2Proof.Machine

/-! ## The encoding of LXI -/

theorem encode_lxi (rp : RegPair) (v : Word) :
    encode (lxiInstr rp v) = [0b00#2 ++ rp.code ++ 0b0001#4, loByte v, hiByte v] := by
  rcases rp with (_ | _ | _) | _ <;> rfl

/-! ## An instruction decodes from its own bytes -/

theorem decodeBytes_lxi (rp : RegPair) (x y : Byte) :
    decodeBytes (0b00#2 ++ rp.code ++ 0b0001#4) x y = lxiInstr rp (joinBytes y x) := by
  rcases rp with (_ | _ | _) | _ <;> rfl

theorem decodeBytes_jcc (c : Cond) (x y : Byte) :
    decodeBytes (0b11#2 ++ c.code ++ 0b010#3) x y = jccInstr c (joinBytes y x) := by
  cases c <;> rfl

theorem decodeBytes_ccc (c : Cond) (x y : Byte) :
    decodeBytes (0b11#2 ++ c.code ++ 0b100#3) x y = cccInstr c (joinBytes y x) := by
  cases c <;> rfl

/-- The decoder reads back every field the encoder wrote (R86 to R94); a byte the instruction does not have is 0. -/
theorem decodeBytes_of_encode (i : Instr) :
    ∃ op operands, encode i = op :: operands ∧ decodeBytes op (operands.getD 0 0) (operands.getD 1 0) = i := by
  cases i using Instr.byForm with
  | mov d k hdk =>
    refine ⟨_, _, encode_mov d k hdk, ?_⟩
    rcases d with (_ | _ | _ | _ | _ | _ | _) | _ <;> rcases k with (_ | _ | _ | _ | _ | _ | _) | _ <;> rfl
  | alu op k =>
    refine ⟨_, _, encode_alu op k, ?_⟩
    cases op <;> rcases k with (_ | _ | _ | _ | _ | _ | _) | _ <;> rfl
  | aluImm op v => exact ⟨_, _, encode_aluImm op v, by cases op <;> rfl⟩
  | mvi k v => exact ⟨_, _, encode_mvi k v, by rcases k with (_ | _ | _ | _ | _ | _ | _) | _ <;> rfl⟩
  | lxi rp v => exact ⟨_, _, encode_lxi rp v, (decodeBytes_lxi rp _ _).trans (congrArg _ (joinBytes_hi_lo v))⟩
  | jcc c v => exact ⟨_, _, encode_jcc c v, (decodeBytes_jcc c _ _).trans (congrArg _ (joinBytes_hi_lo v))⟩
  | ccc c v => exact ⟨_, _, encode_ccc c v, (decodeBytes_ccc c _ _).trans (congrArg _ (joinBytes_hi_lo v))⟩
  | shld v => exact ⟨_, _, rfl, congrArg Instr.shld (joinBytes_hi_lo v)⟩
  | lhld v => exact ⟨_, _, rfl, congrArg Instr.lhld (joinBytes_hi_lo v)⟩
  | sta v => exact ⟨_, _, rfl, congrArg Instr.sta (joinBytes_hi_lo v)⟩
  | lda v => exact ⟨_, _, rfl, congrArg Instr.lda (joinBytes_hi_lo v)⟩
  | jmp v => exact ⟨_, _, rfl, congrArg Instr.jmp (joinBytes_hi_lo v)⟩
  | call v => exact ⟨_, _, rfl, congrArg Instr.call (joinBytes_hi_lo v)⟩
  | inr k | dcr k => rcases k with (_ | _ | _ | _ | _ | _ | _) | _ <;> exact ⟨_, _, rfl, rfl⟩
  | inx rp | dcx rp | dad rp | push rp | pop rp => rcases rp with (_ | _ | _) | _ <;> exact ⟨_, _, rfl, rfl⟩
  | ldax rp | stax rp => cases rp <;> exact ⟨_, _, rfl, rfl⟩
  | rcc c => cases c <;> exact ⟨_, _, rfl, rfl⟩
  | rst n =>
    refine ⟨_, _, encode_rst n, ?_⟩
    revert n
    decide
  | undocumented i hu => fin_cases hu <;> exact ⟨_, _, rfl, rfl⟩
  | nop | rlc | rrc | ral | rar | rim | daa | cma | sim | stc | hlt | cmc | ret | outPort | inPort | xthl | pchl | xchg | di
  | sphl | ei => exact ⟨_, _, rfl, rfl⟩

/-! ## The bytes of a decoded instruction -/

/-- The operand of a 3-byte instruction is stored as it was read: low byte first (R84, D1). -/
theorem operandBytes_joinBytes (x y : Byte) : operandBytes (joinBytes y x) = [x, y] := by
  rw [operandBytes, loByte_joinBytes, hiByte_joinBytes]

theorem encode_decodeBytes_of_length_one {op : Byte} (h : opcodeLength op = 1) (x y : Byte) :
    encode (decodeBytes op x y) = [op] := by
  have hlength := encode_length_decodeBytes op x y
  rw [h, List.length_eq_one_iff] at hlength
  obtain ⟨op', henc⟩ := hlength
  have hhead := encode_head_decodeBytes op x y
  rw [henc, List.headD_cons] at hhead
  rw [henc, hhead]

theorem encode_decodeBytes_of_length_two {op : Byte} (h : opcodeLength op = 2) (x y : Byte) :
    encode (decodeBytes op x y) = [op, x] := by
  unfold opcodeLength at h
  split at h
  · cases h
  · split at h
    · next hop => fin_cases hop <;> rfl
    · cases h

theorem encode_decodeBytes_of_length_three {op : Byte} (h : opcodeLength op = 3) (x y : Byte) :
    encode (decodeBytes op x y) = [op, x, y] := by
  unfold opcodeLength at h
  split at h
  · next hop => fin_cases hop <;> exact congrArg (List.cons _) (operandBytes_joinBytes x y)
  · split at h <;> cases h

/-! ## The round trip -/

/-- An instruction is one, two or three bytes that decode to it (R85). -/
theorem encode_cases (i : Instr) :
    (∃ op, opcodeLength op = 1 ∧ encode i = [op] ∧ decodeBytes op 0 0 = i) ∨
    (∃ op x, opcodeLength op = 2 ∧ encode i = [op, x] ∧ decodeBytes op x 0 = i) ∨
    (∃ op x y, opcodeLength op = 3 ∧ encode i = [op, x, y] ∧ decodeBytes op x y = i) := by
  obtain ⟨op, operands, henc, rfl⟩ := decodeBytes_of_encode i
  rcases opcodeLength_cases op with h | h | h
  · obtain rfl : operands = [] := List.tail_eq_of_cons_eq (henc.symm.trans (encode_decodeBytes_of_length_one h _ _))
    exact .inl ⟨op, h, henc, rfl⟩
  · obtain ⟨x, rfl⟩ : ∃ x, operands = [x] :=
      ⟨_, List.tail_eq_of_cons_eq (henc.symm.trans (encode_decodeBytes_of_length_two h _ _))⟩
    exact .inr (.inl ⟨op, x, h, henc, rfl⟩)
  · exact .inr (.inr ⟨op, _, _, h, encode_decodeBytes_of_length_three h _ _, rfl⟩)

theorem instr_wf (i : Instr) : i.wf = true := by
  rw [Instr.wf]
  rcases encode_cases i with ⟨op, h, henc, -⟩ | ⟨op, x, h, henc, -⟩ | ⟨op, x, y, h, henc, -⟩ <;>
    simp [henc, wellFormedBytes, h]

theorem decode_encode_append (i : Instr) (rest : List Byte) : decode (encode i ++ rest) = .ok (i, rest) := by
  rcases encode_cases i with ⟨op, h, henc, rfl⟩ | ⟨op, x, h, henc, rfl⟩ | ⟨op, x, y, h, henc, rfl⟩ <;> rw [henc]
  · exact decode_of_length_one h rest
  · exact decode_of_length_two h x rest
  · exact decode_of_length_three h x y rest

/-- Settles O1: the bytes of an instruction are one whole instruction, and decode to it. -/
theorem decodeOfEncodeIsInstruction : Obligations.DecodeOfEncodeIsInstruction := by
  exact fun i rest => ⟨instr_wf i, decode_encode_append i rest⟩

/-- What `decode` can answer: an instruction whose bytes head the list, or one of the two errors (R82, R85, R97). -/
theorem decode_cases (bytes : List Byte) :
    (∃ i rest, encode i ++ rest = bytes ∧ decode bytes = .ok (i, rest)) ∨
    (bytes = [] ∧ decode bytes = .error .noBytes) ∨
    (∃ op tail, bytes = op :: tail ∧ bytes.length < opcodeLength op ∧ decode bytes = .error (.truncated op)) := by
  match bytes with
  | [] => exact .inr (.inl ⟨rfl, rfl⟩)
  | op :: tail =>
    rcases opcodeLength_cases op with h | h | h
    · refine .inl ⟨_, tail, ?_, decode_of_length_one h tail⟩
      rw [encode_decodeBytes_of_length_one h]
      rfl
    · match tail with
      | [] => exact .inr (.inr ⟨op, [], rfl, by simp [h], by simp [decode, h]⟩)
      | x :: rest =>
        refine .inl ⟨_, rest, ?_, decode_of_length_two h x rest⟩
        rw [encode_decodeBytes_of_length_two h]
        rfl
    · match tail with
      | [] => exact .inr (.inr ⟨op, [], rfl, by simp [h], by simp [decode, h]⟩)
      | [x] => exact .inr (.inr ⟨op, [x], rfl, by simp [h], by simp [decode, h]⟩)
      | x :: y :: rest =>
        refine .inl ⟨_, rest, ?_, decode_of_length_three h x y rest⟩
        rw [encode_decodeBytes_of_length_three h]
        rfl

/-- Settles O2: of what `decode` can answer, only the instruction whose bytes head the list is no error. -/
theorem encodeOfDecodeIsBytes : Obligations.EncodeOfDecodeIsBytes := by
  intro bytes i rest h
  rcases decode_cases bytes with ⟨_, _, hbytes, hdec⟩ | ⟨-, hdec⟩ | ⟨_, _, -, -, hdec⟩ <;> rw [hdec] at h <;> cases h
  exact hbytes

/-- Three bytes are enough for every opcode (R85). -/
theorem decode_of_three_bytes (op x y : Byte) (rest : List Byte) :
    ∃ i tail, decode (op :: x :: y :: rest) = .ok (i, tail) := by
  rcases opcodeLength_cases op with h | h | h
  · exact ⟨_, _, decode_of_length_one h _⟩
  · exact ⟨_, _, decode_of_length_two h _ _⟩
  · exact ⟨_, _, decode_of_length_three h _ _ _⟩

/-- Settles O3: what `decode` can answer, and a count of the opcodes of each length. -/
theorem decodeFailsOnlyOnShortLists : Obligations.DecodeFailsOnlyOnShortLists := by
  refine ⟨fun bytes => ?_, decode_of_three_bytes, by decide +kernel, by decide +kernel, by decide +kernel⟩
  exact (decode_cases bytes).imp_left fun ⟨i, rest, _, hdec⟩ => ⟨i, rest, hdec⟩

/-- Settles O4: each word is one instruction of the map. -/
theorem sampleWordsDecode : Obligations.SampleWordsDecode := by
  exact ⟨rfl, rfl, rfl, rfl, rfl, rfl, rfl, rfl⟩

end Sys2Proof.Machine

/-! PROOFS. The statements of 10_state.md on who writes a part of the state: the flags (R32), the bank index (R38), the
gateway's slots and record (R36, R326) and `pc` (R25). -/

namespace Sys2Proof.Machine

/-! ## What an instruction may write -/

/-- `t` has the bank, the slots and the observation record of `s`. -/
def SameGateway (s t : State) : Prop :=
  t.bank = s.bank ∧ t.readSlot = s.readSlot ∧ t.writeSlot = s.writeSlot ∧ t.events = s.events

/-- From `s` to `t` the instruction wrote the flags, `pc`, the bank and the record only where its group does (R25, R32, R36,
R38, R326). -/
structure WritesWithinGroup (i : Instr) (s t : State) : Prop where
  flags : t.flags = s.flags ∨ WritesFlags i
  pc : t.pc = s.pc ∨ IsBranch i
  bank : t.bank = s.bank ∨ i = .outPort 254
  readSlot : t.readSlot = s.readSlot
  writeSlot : t.writeSlot = s.writeSlot
  events : t.events = s.events ∨ ∃ ev, t.events = s.events ++ [ev] ∧ ∃ p, i = .inPort p ∨ i = .outPort p

section
variable {i : Instr} {s t : State}

theorem writesWithinGroup_of_gateway (hflags : t.flags = s.flags ∨ WritesFlags i) (hpc : t.pc = s.pc ∨ IsBranch i)
    (h : SameGateway s t) : WritesWithinGroup i s t := by
  obtain ⟨hbank, hread, hwrite, hevents⟩ := h
  exact ⟨hflags, hpc, .inl hbank, hread, hwrite, .inl hevents⟩

/-- A write of registers, SP, memory or the control booleans alone. -/
theorem writesWithinGroup_of_data (h : t.flags = s.flags ∧ t.pc = s.pc ∧ SameGateway s t) : WritesWithinGroup i s t := by
  obtain ⟨hflags, hpc, hgateway⟩ := h
  exact writesWithinGroup_of_gateway (.inl hflags) (.inl hpc) hgateway

theorem writesWithinGroup_of_writesFlags (hi : WritesFlags i) (h : t.pc = s.pc ∧ SameGateway s t) :
    WritesWithinGroup i s t := by
  obtain ⟨hpc, hgateway⟩ := h
  exact writesWithinGroup_of_gateway (.inr hi) (.inl hpc) hgateway

theorem writesWithinGroup_of_isBranch (hi : IsBranch i) (h : t.flags = s.flags ∧ SameGateway s t) :
    WritesWithinGroup i s t := by
  obtain ⟨hflags, hgateway⟩ := h
  exact writesWithinGroup_of_gateway (.inl hflags) (.inr hi) hgateway

theorem writesWithinGroup_refl : WritesWithinGroup i s s :=
  writesWithinGroup_of_data ⟨rfl, rfl, rfl, rfl, rfl, rfl⟩

end

/-! ## The forms -/

/-- What holds of an operation's result and of the state before holds of the operation under a condition. -/
theorem answers_ite {P : State → Prop} {r : Result} {s : State} (b : Bool) (h : Answers r P) (hs : P s) :
    Answers (if b then r else .next s) P := by
  cases b with
  | false => exact ⟨s, rfl, hs⟩
  | true => exact h

theorem jumpOp_writesWithinGroup {i : Instr} (hi : IsBranch i) (a : Word) (s : State) :
    Answers (jumpOp a s) (WritesWithinGroup i s) :=
  ⟨_, rfl, writesWithinGroup_of_isBranch hi ⟨rfl, rfl, rfl, rfl, rfl⟩⟩

theorem callOp_writesWithinGroup {i : Instr} (hi : IsBranch i) (a : Word) (s : State) :
    Answers (callOp a s) (WritesWithinGroup i s) :=
  ⟨_, rfl, writesWithinGroup_of_isBranch hi (by simp [SameGateway])⟩

theorem retOp_writesWithinGroup {i : Instr} (hi : IsBranch i) (s : State) :
    Answers (retOp s) (WritesWithinGroup i s) :=
  ⟨_, rfl, writesWithinGroup_of_isBranch hi ⟨rfl, rfl, rfl, rfl, rfl⟩⟩

theorem inOp_writesWithinGroup (port : Byte) (s : State) : Answers (inOp port s) (WritesWithinGroup (.inPort port) s) := by
  cases hs : s.readSlot with
  | false => exact ⟨_, inOp_of_empty hs port, writesWithinGroup_of_data ⟨rfl, rfl, rfl, rfl, rfl, rfl⟩⟩
  | true =>
    exact ⟨_, inOp_of_present hs port, .inl rfl, .inl rfl, .inl rfl, rfl, rfl, .inr ⟨_, rfl, port, .inl rfl⟩⟩

theorem outOp_writesWithinGroup (port : Byte) (s : State) :
    Answers (outOp port s) (WritesWithinGroup (.outPort port) s) := by
  by_cases hport : port = 254
  · subst hport
    exact ⟨_, outOp_bankPort s, .inl rfl, .inl rfl, .inr rfl, rfl, rfl, .inr ⟨_, rfl, 254, .inr rfl⟩⟩
  · cases hs : s.writeSlot with
    | false =>
      refine ⟨s, (outOp_of_ne hport s).trans ?_, writesWithinGroup_refl⟩
      rw [State.ioWrite_of_empty hs]
    | true =>
      refine ⟨s.record (.output port s.a), (outOp_of_ne hport s).trans ?_, .inl rfl, .inl rfl, .inl rfl, rfl, rfl,
        .inr ⟨_, rfl, port, .inr rfl⟩⟩
      rw [State.ioWrite_of_present hs]

/-- Every instruction writes within its group. -/
theorem exec_writesWithinGroup (i : Instr) (s : State) : Answers (exec i s) (WritesWithinGroup i s) := by
  cases i using Instr.byForm with
  | mov d k hdk => exact ⟨_, exec_mov d k hdk s, writesWithinGroup_of_data (by simp [SameGateway])⟩
  | mvi d v => exact ⟨_, exec_mvi d v s, writesWithinGroup_of_data (by simp [SameGateway])⟩
  | lxi rp v => exact ⟨_, exec_lxi rp v s, writesWithinGroup_of_data (by simp [SameGateway])⟩
  | inx rp => exact ⟨_, exec_inx rp s, writesWithinGroup_of_data (by simp [SameGateway])⟩
  | dcx rp => exact ⟨_, exec_dcx rp s, writesWithinGroup_of_data (by simp [SameGateway])⟩
  | ldax rp => exact ⟨_, exec_ldax rp s, writesWithinGroup_of_data (by simp [SameGateway])⟩
  | stax rp => exact ⟨_, exec_stax rp s, writesWithinGroup_of_data (by simp [SameGateway])⟩
  | undocumented i hu => exact ⟨_, exec_undocumented hu s, writesWithinGroup_refl⟩
  | push rp =>
    rcases rp with (_ | _ | _) | _ <;> exact ⟨_, rfl, writesWithinGroup_of_data ⟨rfl, rfl, rfl, rfl, rfl, rfl⟩⟩
  | pop rp =>
    cases rp with
    | pair p => exact ⟨_, (exec_pop p s).trans (popOp_eq p s), writesWithinGroup_of_data (by simp [SameGateway])⟩
    | PSW =>
      have hi : WritesFlags (popInstr .PSW) := by simp [WritesFlags, popInstr]
      exact ⟨_, rfl, writesWithinGroup_of_writesFlags hi ⟨rfl, rfl, rfl, rfl, rfl⟩⟩
  | alu op k =>
    have hi : WritesFlags (aluInstr op k) := .inl ⟨op, k, rfl⟩
    rw [exec_alu]
    cases op <;> exact ⟨_, rfl, writesWithinGroup_of_writesFlags hi ⟨rfl, rfl, rfl, rfl, rfl⟩⟩
  | aluImm op v =>
    have hi : WritesFlags (aluImmInstr op v) := .inr (.inl ⟨op, v, rfl⟩)
    rw [exec_aluImm]
    cases op <;> exact ⟨_, rfl, writesWithinGroup_of_writesFlags hi ⟨rfl, rfl, rfl, rfl, rfl⟩⟩
  | inr k =>
    exact ⟨_, exec_inr k s,
      writesWithinGroup_of_writesFlags (.inr (.inr (.inl ⟨k, .inl rfl⟩))) (by simp [SameGateway])⟩
  | dcr k =>
    exact ⟨_, exec_dcr k s,
      writesWithinGroup_of_writesFlags (.inr (.inr (.inl ⟨k, .inr rfl⟩))) (by simp [SameGateway])⟩
  | dad rp =>
    exact ⟨_, exec_dad rp s,
      writesWithinGroup_of_writesFlags (.inr (.inr (.inr (.inl ⟨rp, rfl⟩)))) ⟨rfl, rfl, rfl, rfl, rfl⟩⟩
  | rlc | rrc | ral | rar | daa | stc | cmc =>
    exact ⟨_, rfl, writesWithinGroup_of_writesFlags (by simp [WritesFlags]) ⟨rfl, rfl, rfl, rfl, rfl⟩⟩
  | jcc c a =>
    rw [exec_jcc]
    exact answers_ite _ (jumpOp_writesWithinGroup (.inr (.inl ⟨c, a, .inl rfl⟩)) a s) writesWithinGroup_refl
  | ccc c a =>
    rw [exec_ccc]
    exact answers_ite _ (callOp_writesWithinGroup (.inr (.inl ⟨c, a, .inr rfl⟩)) a s) writesWithinGroup_refl
  | rcc c =>
    rw [exec_rcc]
    exact answers_ite _ (retOp_writesWithinGroup (.inr (.inr (.inl ⟨c, rfl⟩))) s) writesWithinGroup_refl
  | rst n =>
    rw [exec_rst]
    exact callOp_writesWithinGroup (.inr (.inr (.inr (.inl ⟨n, rfl⟩)))) _ s
  | jmp a => exact jumpOp_writesWithinGroup (.inl ⟨a, .inl rfl⟩) a s
  | call a => exact callOp_writesWithinGroup (.inl ⟨a, .inr rfl⟩) a s
  | ret => exact retOp_writesWithinGroup (by simp [IsBranch]) s
  | pchl => exact jumpOp_writesWithinGroup (by simp [IsBranch]) (s.getPair .HL) s
  | inPort port => exact inOp_writesWithinGroup port s
  | outPort port => exact outOp_writesWithinGroup port s
  | nop | rim | shld | lhld | cma | sim | sta | lda | hlt | xthl | xchg | di | sphl | ei =>
    exact ⟨_, rfl, writesWithinGroup_of_data ⟨rfl, rfl, rfl, rfl, rfl, rfl⟩⟩

/-- The state an instruction answers differs from the state before within its group. -/
theorem writesWithinGroup_of_exec {i : Instr} {s t : State} (hx : exec i s = .next t) : WritesWithinGroup i s t := by
  obtain ⟨t', hx', h⟩ := exec_writesWithinGroup i s
  rw [hx, Host.Outcome.next.injEq] at hx'
  exact hx' ▸ h

/-! ## The flags, `pc` and the gateway -/

/-- Settles O13: every instruction writes within its group. -/
theorem onlyFlagGroupsChangeFlags : Obligations.OnlyFlagGroupsChangeFlags := by
  exact fun _ _ _ hx hne => (writesWithinGroup_of_exec hx).flags.resolve_left hne

/-- Settles O18: every instruction writes within its group. -/
theorem onlyBranchesWritePc : Obligations.OnlyBranchesWritePc := by
  exact fun _ _ _ hx hne => (writesWithinGroup_of_exec hx).pc.resolve_left hne

/-- Settles O17: every instruction writes within its group. -/
theorem gatewayStateIsWrittenByInOutOnly : Obligations.GatewayStateIsWrittenByInOutOnly := by
  intro i s t hx
  obtain ⟨-, -, -, hread, hwrite, hevents⟩ := writesWithinGroup_of_exec hx
  exact ⟨hread, hwrite, hevents⟩

/-! ## The bank index -/

@[simp] theorem State.bank_loadBytes (s : State) (start : Nat) (buffer : List Byte) :
    (s.loadBytes start buffer).bank = s.bank := by
  obtain ⟨m, hm⟩ := s.loadBytes_eq_withMem start buffer
  rw [hm, State.bank_withMem]

/-- A host operation other than a step, `reset()` and `switchBank` leaves the bank as it was (R38). -/
theorem hostApply_bank {op : HostOp} {s t : State} {r : HostReply} (hx : hostApply op s = .next (r, t)) :
    op = .step ∨ op = .reset ∨ (∃ n, op = .switchBank n) ∨ t.bank = s.bank := by
  cases op with
  | step => exact .inl rfl
  | reset => exact .inr (.inl rfl)
  | switchBank n => exact .inr (.inr (.inl ⟨n, rfl⟩))
  | getReg | getPair | getSp | getPc | readFlags | readHalted | readInterruptEnabled | readBankIndex | readByte | snapshot =>
    cases hx
    exact .inr (.inr (.inr rfl))
  | setReg | setPair | setSp | setPc | writeByte | loadBytes =>
    cases hx
    simp
  | readByteIn bank addr =>
    simp only [hostApply, hostReadByteIn] at hx
    split at hx <;> cases hx
    simp
  | writeByteIn bank addr v =>
    simp only [hostApply, hostWriteByteIn] at hx
    split at hx <;> cases hx
    simp
  | loadSource source start =>
    cases source <;> cases hx <;> simp
  | setReadSlot choice | setWriteSlot choice =>
    cases choice <;> cases hx <;> simp

/-- Settles O16, by what an instruction and a host operation do with the bank. -/
theorem bankIsWrittenByOut254AndHost : Obligations.BankIsWrittenByOut254AndHost := by
  refine ⟨fun i s t hx hne => (writesWithinGroup_of_exec hx).bank.resolve_left hne, fun op s t r hx hne => ?_⟩
  rcases hostApply_bank hx with hop | hop | hop | h
  · exact .inl hop
  · exact .inr (.inl hop)
  · exact .inr (.inr hop)
  · exact absurd h hne

end Sys2Proof.Machine

/-! PROOFS. The statements of 20_memory.md on the canonical form (log entry 5) and on a named bank (R59). -/

namespace Sys2Proof.Machine

/-! ## The canonical form -/

theorem Memory.wf_storeAll (bk : Fin 8) (stores : List (Word × Byte)) {m : Memory} (hm : Memory.wf m = true) :
    Memory.wf (Memory.storeAll bk stores m) = true := by
  induction stores generalizing m with
  | nil => exact hm
  | cons w rest ih => exact ih (Memory.wf_write hm (cellKey_lt bk w.1) w.2)

/-- Settles O9: a step changes memory by a list of stores in the active bank, each of which keeps the canonical form. -/
theorem stepKeepsMemoryCanonical : Obligations.StepKeepsMemoryCanonical := by
  intro s t hs hx
  obtain ⟨stores, ht, -⟩ := step_eq_withMem_storeAll hx
  rw [ht]
  exact Memory.wf_storeAll s.bank stores hs

/-! ## A named bank -/

theorem bankIndex_val (n : Fin 8) : bankIndex n.val = some n := by
  obtain ⟨b, hb, hval⟩ := bankIndex_eq_some (n := n.val) (by omega) (by omega)
  rw [hb, Fin.ext (Int.ofNat_inj.1 hval)]

theorem ofInt_toNat (w : Nat) (x : BitVec w) : BitVec.ofInt w x.toNat = x := by
  rw [BitVec.ofInt_natCast, BitVec.ofNat_toNat, BitVec.setWidth_eq]

theorem hostReadByteIn_val (n : Fin 8) (a : Word) (s : State) :
    hostReadByteIn n.val a.toNat s = .next (.byte (s.readBank n a), s) := by
  rw [hostReadByteIn, bankIndex_val, ofInt_toNat]

theorem hostWriteByteIn_val (n : Fin 8) (a : Word) (v : Byte) (s : State) :
    hostWriteByteIn n.val a.toNat v.toNat s = .next (.nothing, s.writeBank n a v) := by
  rw [hostWriteByteIn, bankIndex_val, ofInt_toNat, ofInt_toNat]

/-- Settles O24: a bank that exists is read and written by its number, and no other index names one. -/
theorem namedBankAccess : Obligations.NamedBankAccess := by
  refine ⟨fun s n a => hostReadByteIn_val n a s, fun s n a v hs => ?_, fun s n a v hn => ⟨?_, ?_⟩⟩
  · refine ⟨_, hostWriteByteIn_val n a v s, ?_, fun m x hne => ?_, fun p => s.same_withMem _ p⟩
    · rw [State.readBank_writeBank hs, if_pos ⟨rfl, rfl⟩]
    · rw [State.readBank_writeBank hs, if_neg hne]
  · rw [hostApply, hostReadByteIn, bankIndex_eq_none hn]
  · rw [hostApply, hostWriteByteIn, bankIndex_eq_none hn]

end Sys2Proof.Machine

/-! PROOFS. The statements of 60_exceptions.md: no step stops (R300), and how a run under a fuel ends (R327, D17). -/

namespace Sys2Proof.Machine

/-! ## Steps and runs of any length -/

/-- No step ends in a fault or a refusal (R300). -/
theorem step_answers (s : State) : ∃ t, step s = .next t := by
  cases hs : s.halted with
  | true => exact ⟨s, step_of_halted hs⟩
  | false =>
    rw [step_of_running hs]
    exact exec_answers _ _

theorem safeFor (n : Nat) (s : State) : SafeFor n s := by
  induction n generalizing s with
  | zero => trivial
  | succ n ih =>
    obtain ⟨t, hx⟩ := step_answers s
    exact ⟨t, hx, ih t⟩

/-- Settles O7: every instruction answers, hence every step, hence every run by induction on its length. -/
theorem runsNeverStop : Obligations.RunsNeverStop := by
  refine ⟨fun i s => ?_, safeFor⟩
  obtain ⟨t, hx⟩ := exec_answers i s
  exact ⟨t, hx, trivial⟩

/-! ## Runs under a fuel -/

theorem core_run_succ {s t : State} (hx : step s = .next t) (n : Nat) : core.run (n + 1) s = core.run n t := by
  have hstep : core.step s = .next t := hx
  simp only [Host.Core.run, hstep]

theorem runFuel_zero_of_running {s : State} (hs : s.halted = false) : runFuel 0 s = .unfinished s := by
  simp [runFuel, hs]

theorem runFuel_succ_of_running {s t : State} (hs : s.halted = false) (hx : step s = .next t) (n : Nat) :
    runFuel (n + 1) s = runFuel n t := by
  rw [runFuel, if_neg (by simp [hs])]
  simp only [hx]

/-- Settles O27, by induction on the fuel: a halted engine stays where it is, a running one takes a step. -/
theorem runEndsWhenHalted : Obligations.RunEndsWhenHalted := by
  intro n
  induction n with
  | zero =>
    intro s
    cases hs : s.halted with
    | true => exact .inl ⟨s, runFuel_of_halted hs 0, hs, rfl, fun m _ => runFuel_of_halted hs m⟩
    | false => exact .inr ⟨s, runFuel_zero_of_running hs, hs, rfl⟩
  | succ n ih =>
    intro s
    cases hs : s.halted with
    | true => exact .inl ⟨s, runFuel_of_halted hs _, hs, core_run_of_halted hs _, fun m _ => runFuel_of_halted hs m⟩
    | false =>
      obtain ⟨u, hx⟩ := step_answers s
      rw [runFuel_succ_of_running hs hx, core_run_succ hx]
      rcases ih u with ⟨t, hfin, ht, hrun, hmore⟩ | hunfinished
      · refine .inl ⟨t, hfin, ht, hrun, fun m hm => ?_⟩
        obtain ⟨k, rfl⟩ : ∃ k, m = k + 1 := ⟨m - 1, by omega⟩
        rw [runFuel_succ_of_running hs hx]
        exact hmore k (by omega)
      · exact .inr hunfinished

end Sys2Proof.Machine

/-! PROOFS. The statement of 45_stack.md on the stack primitives (R270, R271), and that of 41_transfer.md on LXI (R146). -/

namespace Sys2Proof.Machine

/-- The word a push stores, read back at the new stack pointer (R270, R271, D2). -/
theorem State.readWord_push16 {s : State} (hs : s.wf = true) (v : Word) : (s.push16 v).readWord (s.sp - 2) = v := by
  have hhigh : s.sp - 2 + 1 = s.sp - 1 := by bv_omega
  obtain ⟨-, hhi, hlo, -⟩ := pushEffect_push16 hs v
  rw [State.readWord, hhigh, hhi, hlo, joinBytes_hi_lo]

/-- Settles O28: the pop reads the pushed word and raises SP over it. -/
theorem popUndoesPush : Obligations.PopUndoesPush := by
  intro s v hs
  rw [State.pop16_eq, State.sp_push16]
  exact ⟨State.readWord_push16 hs v, BitVec.sub_add_cancel s.sp 2, rfl⟩

/-- Settles O33: LXI writes the pair or SP alone. -/
theorem lxiLoadsPair : Obligations.LxiLoadsPair := by
  exact fun rp v s => ⟨encode_lxi rp v, _, exec_lxi rp v s, s.readRp_writeRp_self rp v, frame_writeRp s rp v⟩

end Sys2Proof.Machine

/-! PROOFS. The statements of 42_arithmetic.md on DAD (R183) and DAA (R184), with `daa` of 40_alu.md (R117). -/

namespace Sys2Proof.Machine

/-! ## DAD -/

theorem encode_dad (rp : RegPair) : encode (dadInstr rp) = [0b00#2 ++ rp.code ++ 0b1001#4] := by
  rcases rp with (_ | _ | _) | _ <;> rfl

/-- DAD by its two writes: the sum modulo 65536 to HL, then CY (R183). -/
theorem dadOp_eq (rp : RegPair) (s : State) :
    dadOp rp s =
      .next ((s.setPair .HL (s.getPair .HL + s.readRp rp)).setCy
        (decide (0xFFFF < (s.getPair .HL).toNat + (s.readRp rp).toNat))) := by
  rw [BitVec.add_def]
  rfl

/-- Settles O43: DAD writes HL, then CY alone. -/
theorem dadAddsToHl : Obligations.DadAddsToHl := by
  refine fun rp s => ⟨encode_dad rp, _, (exec_dad rp s).trans (dadOp_eq rp s), ?_, decide_eq_true_iff, ?_⟩
  · rw [State.getPair_setCy, State.getPair_setPair]
  · exact frame_trans (frame_setPair s .HL _) (frame_setCy _ _) rfl

/-! ## DAA -/

/-- The low correction: 06 when the low nibble is above 9 or AC is set (R117). -/
def daaLow (acc : Byte) (f : Flags) : Nat := if 9 < acc.toNat % 16 ∨ f.ac = true then 0x06 else 0

/-- The high correction: 60 when the high nibble is above 9, CY is set, or the low correction carries into a 9 (R117). -/
def daaHigh (acc : Byte) (f : Flags) : Nat :=
  if 9 < acc.toNat / 16 ∨ f.cy = true ∨ (9 ≤ acc.toNat / 16 ∧ 9 < acc.toNat % 16) then 0x60 else 0

theorem daaLow_cases (acc : Byte) (f : Flags) : daaLow acc f = 0 ∨ daaLow acc f = 0x06 := by
  unfold daaLow
  split
  · exact .inr rfl
  · exact .inl rfl

theorem daaHigh_cases (acc : Byte) (f : Flags) : daaHigh acc f = 0 ∨ daaHigh acc f = 0x60 := by
  unfold daaHigh
  split
  · exact .inr rfl
  · exact .inl rfl

/-- `daa` by its two corrections: the carry out of bit 3 is that of the low one (R117, D8). -/
theorem aluDaa_effect (acc : Byte) (f : Flags) :
    (aluDaa acc f).1.toNat = (acc.toNat + daaLow acc f + daaHigh acc f) % 256 ∧
    ((aluDaa acc f).2.cy = true ↔ f.cy = true ∨ daaHigh acc f = 0x60) ∧
    ((aluDaa acc f).2.ac = true ↔ 15 < acc.toNat % 16 + daaLow acc f) := by
  have hlow : (if decide (9 < acc.toNat % 16) || f.ac then 0x06 else 0) = daaLow acc f := by
    simp [daaLow]
  have hhigh : (if decide (9 < acc.toNat / 16) || f.cy || (decide (9 ≤ acc.toNat / 16) && decide (9 < acc.toNat % 16))
      then 0x60 else 0) = daaHigh acc f := by
    simp [daaHigh, or_assoc]
  refine ⟨?_, ?_, ?_⟩
  · simp only [aluDaa, hlow, hhigh, BitVec.toNat_ofNat, Nat.add_assoc]
  · rw [← hhigh]
    refine (iff_of_eq (Bool.or_eq_true _ _)).trans (or_congr_right ?_)
    split <;> simp [*]
  · simp only [aluDaa, Flags.arithmetic_ac, hlow, hhigh, decide_eq_true_iff]
    have := daaLow_cases acc f
    have := daaHigh_cases acc f
    omega

/-- DAA by what its two corrections do (R184). -/
theorem daaOp_effect (s : State) :
    Answers (daaOp s) fun t =>
      t.a.toNat = (s.a.toNat + daaLow s.a s.flags + daaHigh s.a s.flags) % 256 ∧
      (t.flags.cy = true ↔ s.flags.cy = true ∨ daaHigh s.a s.flags = 0x60) ∧
      (t.flags.ac = true ↔ 15 < s.a.toNat % 16 + daaLow s.a s.flags) ∧
      ResultFlags t.a t ∧ Frame (.reg .A :: allFlags) [] s t := by
  obtain ⟨hs, hz, hp⟩ := aluDaa_flags s.a s.flags
  obtain ⟨ha, hcy, hac⟩ := aluDaa_effect s.a s.flags
  exact ⟨_, rfl, ha, hcy, hac, ⟨hs, (Bool.eq_iff_iff.1 hz).trans beq_iff_eq, hp⟩, frame_setReg_A_setFlags s _ _⟩

/-- Settles O44: DAA writes A and the flags as `daa` gives them. -/
theorem daaCorrectsAccumulator : Obligations.DaaCorrectsAccumulator := by
  exact ⟨rfl, daaOp_effect⟩

/-! ## Decimal addition -/

theorem bcd_toNat {n : Nat} (h : n < 100) : (bcd n).toNat = n / 10 * 16 + n % 10 := by
  rw [bcd, BitVec.toNat_ofNat]
  omega

section
variable {x y : Nat} {acc : Byte} {f : Flags} (hx : x < 100) (hy : y < 100)
  (hacc : acc.toNat = ((bcd x).toNat + (bcd y).toNat) % 256)
include hx hy hacc

/-- After a binary sum of two decimal bytes the low correction is made exactly when the low digits carry. -/
theorem daaLow_of_bcd_sum (hac : f.ac = true ↔ 15 < (bcd x).toNat % 16 + (bcd y).toNat % 16) :
    daaLow acc f = if 9 < x % 10 + y % 10 then 0x06 else 0 := by
  rw [bcd_toNat hx, bcd_toNat hy] at hacc hac
  refine if_congr ?_ rfl rfl
  rw [hac, hacc]
  omega

/-- After a binary sum of two decimal bytes the high correction is made exactly when the decimal sum carries. -/
theorem daaHigh_of_bcd_sum (hcy : f.cy = true ↔ 255 < (bcd x).toNat + (bcd y).toNat) :
    daaHigh acc f = if 100 ≤ x + y then 0x60 else 0 := by
  rw [bcd_toNat hx, bcd_toNat hy] at hacc hcy
  refine if_congr ?_ rfl rfl
  rw [hcy, hacc]
  by_cases hbig : 255 < x / 10 * 16 + x % 10 + (y / 10 * 16 + y % 10)
  · omega
  · rw [Nat.mod_eq_of_lt (by omega)]
    omega

/-- A correction of 6 makes a carry out of a decimal digit one out of the nibble. -/
theorem bcd_sum_of_corrections :
    (acc.toNat + (if 9 < x % 10 + y % 10 then 0x06 else 0) + (if 100 ≤ x + y then 0x60 else 0)) % 256 =
      (bcd ((x + y) % 100)).toNat := by
  rw [bcd_toNat hx, bcd_toNat hy] at hacc
  rw [bcd_toNat (Nat.mod_lt _ (by omega)), hacc]
  split <;> split <;> omega

end

/-- Settles O45: after the addition DAA corrects each digit that carries, and CY is then the decimal carry. -/
theorem daaAfterAddIsDecimalSum : Obligations.DaaAfterAddIsDecimalSum := by
  intro x y s hx hy ha
  obtain ⟨hsum, hcy, hac, -, -⟩ := accAdd_effect (bcd y) false s
  refine ⟨_, exec_aluImm .ADD (bcd y) s, ?_⟩
  obtain ⟨t, ht, hta, htcy, -⟩ := daaOp_effect (accAdd (bcd y) false s)
  rw [ha] at hsum hcy hac
  have hlow := daaLow_of_bcd_sum hx hy hsum hac
  have hhigh := daaHigh_of_bcd_sum hx hy hsum hcy
  rw [hlow, hhigh, bcd_sum_of_corrections hx hy hsum] at hta
  refine ⟨t, ht, BitVec.eq_of_toNat_eq hta, htcy.trans ?_⟩
  have hcorrected : daaHigh (accAdd (bcd y) false s).a (accAdd (bcd y) false s).flags = 0x60 ↔ 100 ≤ x + y := by
    rw [hhigh, ite_eq_left_iff]
    omega
  rw [hcorrected, or_iff_right_iff_imp, hcy, bcd_toNat hx, bcd_toNat hy, Bool.false_and, if_neg Bool.false_ne_true]
  omega

end Sys2Proof.Machine

/-! PROOFS. The statements of 70_reset_and_hazards.md on the state after construction and after `reset()` (R330, R331). -/

namespace Sys2Proof.Machine

/-- Settles O10: the fields of the construction state. -/
theorem constructionState : Obligations.ConstructionState := by
  exact ⟨State.getReg_hostReset State.reset, rfl, rfl, rfl, rfl, rfl, rfl, State.readBank_hostReset State.reset,
    rfl, rfl, rfl, rfl, rfl⟩

/-- Settles O11: the fields of the state after `reset()`. -/
theorem hostResetRestoresConstructionState : Obligations.HostResetRestoresConstructionState := by
  exact fun s => ⟨_, rfl, State.getReg_hostReset s, rfl, rfl, rfl, rfl, rfl, rfl, State.readBank_hostReset s,
    rfl, rfl, rfl, rfl⟩

end Sys2Proof.Machine
